-- ==== Sys2Proof/Word.lean ====
section
/-!
DEFINITION. The widths of the block's values (00_scope.md rules R9 and R14, 10_state.md, 30_encoding.md).
-/

namespace Sys2Proof

/-- The command word of format `C`, 32 bits (R60). -/
abbrev CommandWord := BitVec 32

/-- The event code of format `E`, 4 bits (R62). -/
abbrev EventCode := BitVec 4

/-- A coil pattern, `PATTERN_W` = 4 bits (R9). -/
abbrev Pattern := BitVec 4

/-- The coil output port, `PORT_W` = 8 bits (R9). -/
abbrev PortByte := BitVec 8

/-- Positions, targets and the travel range, `POS_W` = 16 bits (R9). -/
abbrev Position := BitVec 16

/-- The direction, `DIR_W` = 3 bits (R9). -/
abbrev Direction := BitVec 3

/-- The step index, 3 bits (R24). -/
abbrev StepIndex := BitVec 3

/-- The step mode, 2 bits (R27). -/
abbrev ModeBits := BitVec 2

/-- Timer counts and compare values, `TIMER_W` = 16 bits (R9). -/
abbrev Ticks := BitVec 16

/-- One switch level: 0 is pressed, 1 is not pressed (R101). -/
abbrev Level := BitVec 1

end Sys2Proof
end

