-- ==== Sys2Proof/Config.lean ====
section
/-!
DEFINITION. The parameters of 00_scope.md rule R9: the fixed ones with their values, the OPEN ones as constants
without a body, so that no proof can lean on a value the source does not give.
-/

namespace Sys2Proof.Config

/-- `TABLE_LEN` (R9, R50). -/
abbrev tableLen : Nat := 8

/-- `COIL_MASK`: port bits 7..4 (R9, R51). -/
def coilMask : PortByte := 0xF0

/-- `ANGLE_MOD` (R9, R107). -/
def angleMod : Int := 180

/-- `SETTLE_MS` (R9, R98). The model has no time (R190): no rule reads it. -/
def settleMs : Nat := 5

/-- The step-mode value `HALF` (R27). -/
def half : ModeBits := 1

/-- The step-mode value `FULL` (R27). -/
def full : ModeBits := 2

/-- `COIL_TABLE`, OPEN (R9, D24, G1): the eight patterns, on which no claim may depend. Log 3. -/
opaque coilTable : Fin tableLen → Pattern

/-- One less than `STEP_SPEED`, OPEN (R9, D23, G15): this type keeps the bound `1 <= STEP_SPEED <= 65535`. Log 3. -/
opaque stepSpeedLessOne : Fin 65535

/-- `STEP_SPEED` (R31): the step period in timer ticks. -/
def stepSpeed : Ticks := BitVec.ofNat 16 (stepSpeedLessOne.val + 1)

/-- `STEP_CH`, OPEN (R9, D37): no rule depends on it. Log 19. -/
opaque stepChannel : Nat

/-- `RIGHT_PIN`, OPEN (R9, D37): no rule depends on it. Log 19. -/
opaque rightPin : Nat

/-- `LEFT_PIN`, OPEN (R9, D37): no rule depends on it. Log 19. -/
opaque leftPin : Nat

/-- What the compare register TC holds after the n-th power cycle, a free value (R35, G9, N7). Log 2. -/
opaque tcAtPowerOn : Nat → Ticks

/-- What port bits 7..4 hold after the n-th power cycle, a free value (R33, G9, N6). Log 2. -/
opaque portHiAtPowerOn : Nat → Pattern

end Sys2Proof.Config
end

