-- ==== Sys2Proof/Syntax.lean ====
section
/-!
DEFINITION. The steps the block's agents take: one constructor per row of spec/opcode_table.json
(30_encoding.md rules R63 and R64), the agents (00_scope.md rule R11), and the names of the refusals
(60_exceptions.md rule R141).
-/

namespace Sys2Proof

/-- The five agents (R11). -/
inductive Agent where
  | host
  | timer
  | handler
  | scanner
  | delay
deriving DecidableEq, Repr

/-- The commands and events of the opcode table. -/
inductive Instr where
  /-- INIT (R90). -/
  | init
  /-- SET_ANGLE with its angle as the integer the decoder reads, `sint(OPD)` (R66, R105). -/
  | setAngle (angle : Int)
  /-- SET_STEP_MODE HALF (R110). -/
  | setStepModeHalf
  /-- SET_STEP_MODE FULL (R110). -/
  | setStepModeFull
  /-- IS_BUSY (R112). -/
  | isBusy
  /-- MATCH, the step channel's compare event (R120). -/
  | compareMatch
  /-- TICK, one run of the step interrupt handler (R121). -/
  | tick
  /-- SCAN, one iteration of the homing loop (R93). -/
  | scan
  /-- SETTLE_DONE, the end of a settle delay (R97). -/
  | settleDone
deriving DecidableEq, Repr

/-- The agent that takes a step (R11, R64). -/
def Instr.agent : Instr → Agent
  | .init => .host
  | .setAngle _ => .host
  | .setStepModeHalf => .host
  | .setStepModeFull => .host
  | .isBusy => .host
  | .compareMatch => .timer
  | .tick => .handler
  | .scan => .scanner
  | .settleDone => .delay

/-- What is fetched: a command word of format `C` (R60) or an event code of format `E` (R62). -/
inductive Code where
  | word (w : CommandWord)
  | event (e : EventCode)
deriving DecidableEq, Repr

/-- The refusal reasons of R141. -/
inductive RefuseReason where
  | reservedOpcode
  | reservedBits
  | reservedOperand
  | badMode
  | notHomed
deriving DecidableEq, Repr

/-- The code of each refusal reason (R141). -/
def RefuseReason.code : RefuseReason → Nat
  | .reservedOpcode => 1
  | .reservedBits => 2
  | .reservedOperand => 3
  | .badMode => 4
  | .notHomed => 5

/-- Why a code is no instruction: a word refused for one of the reasons of R65, or one of the event codes
0x0, 0x5..0xF, which name no step (R64). -/
inductive Reject where
  | refused (r : RefuseReason)
  | noSuchEvent
deriving DecidableEq, Repr

end Sys2Proof
end

