-- ==== Sys2Proof/Machine/State.lean ====
section
/-!
DEFINITION. The machine's state as plain data (10_state.md, 20_memory.md rule R50), the reasons a step can stop,
and the state after power-on reset (10_state.md rule R44).
-/

namespace Sys2Proof.Machine

/-- PHASE (R22): the block's sequencing state. Its unused values 5..7 are not representable (G6, log 1). -/
inductive Phase where
  /-- After power-on, before the first INIT. -/
  | uninit
  /-- Homing phase 1: driving toward the right limit switch. -/
  | homeR
  /-- Homing phase 2: driving toward the left limit switch. -/
  | homeL
  /-- Interrupt disabled, not busy. -/
  | idle
  /-- Interrupt enabled, busy. -/
  | stepping
deriving DecidableEq, Repr

/-- The 3-bit encoding of PHASE (R22). -/
def Phase.code : Phase → BitVec 3
  | .uninit => 0
  | .homeR => 1
  | .homeL => 2
  | .idle => 3
  | .stepping => 4

/-- The environment's draws (R19): free values, supplied anew with each turn (log 7). -/
structure Draws where
  /-- The right limit switch, active-low (R93, R101). -/
  limRn : Level
  /-- The left limit switch, active-low (R93, R101). -/
  limLn : Level
  /-- The timer's current count (R105, D22). -/
  tcnt : Ticks
deriving DecidableEq, Repr

/-- Who moves next (R11, R18, R142). -/
inductive Mover where
  /-- HOST, with the word on the command port (R60). -/
  | host
  /-- The agent whose step the event code names (R62, R64). -/
  | event (e : EventCode)
  /-- The environment switches the power off and on (R170, R172; log 13). -/
  | powerOn
deriving DecidableEq, Repr

/-- One turn: who moves, and the draws of that step. -/
structure Turn where
  mover : Mover
  draws : Draws
deriving DecidableEq, Repr

/-- What the model records of a refusal (R141): the reason, the command word and, for NOT_HOMED, PHASE. -/
structure RefusalRecord where
  reason : RefuseReason
  word : CommandWord
  phase : Option Phase
deriving DecidableEq, Repr

/-- Everything the spec gives the machine, then the host's and the environment's side of the interface. -/
structure State where
  /-- PHASE (R22). -/
  phase : Phase
  /-- SETTLE (R23): a homing settle delay is running. -/
  settle : Bool
  /-- IDX (R24): the step index into the coil table. -/
  idx : StepIndex
  /-- POS (R25): the current position, read as signed. -/
  pos : Position
  /-- TGT (R26): the target position, read as signed. -/
  tgt : Position
  /-- MODE (R27): the step mode, 1 is HALF and 2 is FULL. -/
  mode : ModeBits
  /-- DIR (R28): the direction, read as signed. -/
  dir : Direction
  /-- MAXS (R29): the calibrated travel range, read as unsigned. -/
  maxs : Position
  /-- BUSY (R30). -/
  busy : Bool
  /-- STEP_SPEED (R31): the step period, a constant that no rule writes (log 3). -/
  stepSpeed : Ticks
  /-- REFUSED (R32): the sticky mark of a refused command. -/
  refused : Bool
  /-- PORT_HI (R33): port bits 7..4. -/
  portHi : Pattern
  /-- Whether PORT_HI "has a value" (R33): the block has written it. Until then `portHi` is a free value (log 2). -/
  portHiHasValue : Bool
  /-- Port bits 3..0, which the block never writes (R33, R51; log 14). -/
  portLo : BitVec 4
  /-- IO_CFG (R34): INIT has configured pins and timer. -/
  ioCfg : Bool
  /-- TC (R35): the compare register. -/
  tc : Ticks
  /-- Whether TC "has a value" (R35): SET_ANGLE has written it. Until then `tc` is a free value (log 2). -/
  tcHasValue : Bool
  /-- IE (R36): the step channel's interrupt enable. -/
  ie : Bool
  /-- PEND (R37): the step channel's pending compare flag. -/
  pend : Bool
  /-- COIL_TABLE (R50): the read-only table of coil patterns (log 3). -/
  coilTable : Vector Pattern Config.tableLen
  /-- The word on the command port and, behind it, the words the host has still to issue (R60, R187). -/
  commands : List CommandWord
  /-- The response words given to the host, newest first (R68; log 12). -/
  responses : List CommandWord
  /-- The refusals recorded, newest first (R141; log 10). -/
  refusals : List RefusalRecord
  /-- The draws of the step in progress (R19; log 7). -/
  draws : Draws
  /-- The turns to come, next first (R142; log 6). -/
  schedule : List Turn
  /-- The power cycles so far: each gives TC and PORT_HI new free values (log 2). -/
  powerCycles : Nat
deriving DecidableEq, Repr

/-- The reasons the machine can stop with a fault: none, because "The block raises no exception" (R140; log 18). -/
inductive Fault where
deriving DecidableEq, Repr

/-- The reasons a step can be given no meaning. A refusal of the spec (R140) is no such stop: it is a next state that
marks REFUSED (log 10). -/
inductive Refusal where
  /-- Raised by an arm of exec whose instruction has no meaning yet; no arm raises it. Safe: the run stops. -/
  | notModelled (mnemonic : String)
deriving DecidableEq, Repr

/-- The machine right after power-on (R44, R170). The OPEN constants have their parameter's value (log 3), TC and
PORT_HI hold free values and are marked as without value (log 2), and nothing is on the host's and the environment's side
yet (log 5, 6, 7, 14). -/
def State.reset : State where
  phase := .uninit
  settle := false
  idx := 0
  pos := 0
  tgt := 0
  mode := Config.half
  dir := 0
  maxs := 0
  busy := false
  stepSpeed := Config.stepSpeed
  refused := false
  portHi := Config.portHiAtPowerOn 0
  portHiHasValue := false
  portLo := 0
  ioCfg := false
  tc := Config.tcAtPowerOn 0
  tcHasValue := false
  ie := false
  pend := false
  coilTable := Vector.ofFn Config.coilTable
  commands := []
  responses := []
  refusals := []
  draws := { limRn := 1, limLn := 1, tcnt := 0 }
  schedule := []
  powerCycles := 0

end Sys2Proof.Machine
end

