-- ==== Sys2Proof/Machine/Flags.lean ====
section
/-!
DEFINITION. The conditions computed from the state: READY, the enabling condition of every step, and the stopping test.
-/

namespace Sys2Proof.Machine

/-- PHASE is one of the homing phases. -/
def State.homing (s : State) : Bool := s.phase == .homeR || s.phase == .homeL

/-- READY (R38): PHASE is neither HOME_R nor HOME_L. -/
def State.ready (s : State) : Bool := !s.homing

/-- INIT is enabled in UNINIT and IDLE (R90). -/
def State.initEnabled (s : State) : Bool := s.phase == .uninit || s.phase == .idle

/-- TICK is enabled when `IE = 1` and `PEND = 1` (R121). -/
def State.tickEnabled (s : State) : Bool := s.ie && s.pend

/-- SCAN is enabled in a homing phase when `SETTLE = 0` (R93). -/
def State.scanEnabled (s : State) : Bool := s.homing && !s.settle

/-- "the sole stopping condition" (R127): all 16 bits of POS and TGT are equal. -/
def State.atTarget (s : State) : Bool := s.pos == s.tgt

/-- The enabling condition of each step (R18, R64, R90, R105, R110, R112). -/
def enabled : Instr → State → Bool
  | .init, s => s.initEnabled
  | .setAngle _, s => s.ready
  | .setStepModeHalf, s => s.ready
  | .setStepModeFull, s => s.ready
  | .isBusy, s => s.ready
  | .compareMatch, _ => true
  | .tick, s => s.tickEnabled
  | .scan, s => s.scanEnabled
  | .settleDone, s => s.settle

end Sys2Proof.Machine
end

