-- ==== Sys2Proof/Machine/Operands.lean ====
section
/-!
DEFINITION. The notation of 00_scope.md rules R14 and R15 and what SET_ANGLE computes from its operand
(42_motion_requests.md rules R107 to R109).
-/

namespace Sys2Proof.Machine

/-- `sint(v)` (R14): a bit vector read as a two's-complement integer. -/
def sint {n : Nat} (v : BitVec n) : Int := v.toInt

/-- `uint(v)` (R14): a bit vector read as an unsigned integer. -/
def uint {n : Nat} (v : BitVec n) : Int := (v.toNat : Int)

/-- `wrap_s(N, i)` (R14). -/
def wrapS (n : Nat) (i : Int) : BitVec n := BitVec.ofInt n i

/-- `wrap_u(N, i)` (R14): the same bits as `wrap_s`, to be read as unsigned. -/
def wrapU (n : Nat) (i : Int) : BitVec n := BitVec.ofInt n i

/-- `quot(a, b)` (R15): the quotient truncated toward zero. -/
def quot (a b : Int) : Int := a.tdiv b

/-- `rem(a, b) = a - b*quot(a, b)` (R15). -/
def rem (a b : Int) : Int := a - b * quot a b

/-- The angle "taken modulo 180" (R107). -/
def foldAngle (angle : Int) : Int := rem angle Config.angleMod

/-- The exact scaled target `t` of SET_ANGLE (R108), before it is wrapped to 16 bits. -/
def scaledTarget (angle : Int) (maxs : Position) : Int :=
  quot (foldAngle angle * uint maxs) Config.angleMod

/-- The direction for a difference between target and position (R109): `MODE` forward, `-MODE` otherwise. -/
def directionFor (mode : ModeBits) (diff : Int) : Direction :=
  wrapS 3 (if diff > 0 then uint mode else -uint mode)

/-- IDX after one STEP (R81). -/
def advanceIndex (idx : StepIndex) (dir : Direction) : StepIndex := wrapU 3 (uint idx + sint dir)

/-- POS after one STEP (R83). -/
def advancePosition (pos : Position) (dir : Direction) : Position := wrapS 16 (sint pos + sint dir)

/-- A timer count or compare value plus a number of ticks, modulo `2^TIMER_W` (R35). -/
def addTicks (base offset : Ticks) : Ticks := wrapU 16 (uint base + uint offset)

/-- The port-aligned value `{p, 0b0000}` of a pattern (R51, R52; conflict C1). -/
def alignPattern (p : Pattern) : PortByte := p ++ (0 : BitVec 4)

/-- The masked write on a whole port: `(P & ~mask) | (X & mask)` (R51). -/
def forceBits (port mask value : PortByte) : PortByte := (port &&& ~~~mask) ||| (value &&& mask)

/-- The response word `{0 (31 bits), BUSY}` (R68). -/
def responseWord (busy : Bool) : CommandWord := (0 : BitVec 31) ++ BitVec.ofBool busy

/-- `isBitClear` of an active-low switch input: true means pressed (R101, R147). -/
def isPressed (level : Level) : Bool := level == 0

end Sys2Proof.Machine
end

