-- ==== Sys2Proof/Machine/Ops.lean ====
section
/-!
DEFINITION. The named operations over the state: the port write, STEP, the timer contract, responses, refusals, held
steps and power-on. The block takes no exception (R140); its one interrupt is the TICK step itself (R151), so there is no
entry or return operation.
-/

namespace Sys2Proof.Machine

/-- What every step answers. -/
abbrev Result := Host.Outcome State Fault Refusal

/-- A step that is not enabled is held: it changes nothing, and a command stays on the port (R17, R18, R187; log 8). -/
def held (s : State) : Result := .next s

/-- The coil pattern at an index (R50): an index of 3 bits is always in range. -/
def State.patternAt (s : State) (i : StepIndex) : Pattern := s.coilTable[i.toNat]'i.isLt

/-- The coil output port, all 8 bits (R33, R51). -/
def State.port (s : State) : PortByte := s.portHi ++ s.portLo

/-- `PortForce(mask, value)` (R51): the bits of `mask` are written, the others keep their values. A write of all of bits
7..4, as the block's one mask is, gives PORT_HI a value (log 15). -/
def portForce (mask value : PortByte) (s : State) : State :=
  { s with
    portHi := (forceBits s.port mask value).extractLsb' 4 4
    portHiHasValue := s.portHiHasValue || mask.extractLsb' 4 4 == 0xF
    portLo := (forceBits s.port mask value).extractLsb' 0 4 }

/-- The first part of STEP: the index advances (R81). -/
def stepIndex (s : State) : State := { s with idx := advanceIndex s.idx s.dir }

/-- The last part of STEP: the position moves by the direction (R83). -/
def stepPosition (s : State) : State := { s with pos := advancePosition s.pos s.dir }

/-- The pattern at the current index goes to the port (R82). -/
def applyPattern (s : State) : State := portForce Config.coilMask (alignPattern (s.patternAt s.idx)) s

/-- STEP (R80): advance IDX, apply the pattern just selected, then count the position (D13). -/
def stepCoil (s : State) : State := stepPosition (applyPattern (stepIndex s))

/-- `armChannelAt(STEP_CH, count)` (R145): TC is written, which clears PEND (R58, D21). -/
def armChannelAt (count : Ticks) (s : State) : State := { s with tc := count, tcHasValue := true, pend := false }

/-- `advanceChannelCompareBy(STEP_CH, offset)` (R145, R122): relative to the compare value, whatever it is. -/
def advanceChannelCompareBy (offset : Ticks) (s : State) : State := { s with tc := addTicks s.tc offset }

/-- `readChannelCompareRegister(STEP_CH)` (R145, R58): the read clears PEND. -/
def readChannelCompareRegister (s : State) : State := { s with pend := false }

/-- `enableChannelInterrupt(STEP_CH)` (R145). -/
def enableChannelInterrupt (s : State) : State := { s with ie := true }

/-- `disableChannelInterrupt(STEP_CH)` (R145). -/
def disableChannelInterrupt (s : State) : State := { s with ie := false }

/-- INIT's configuration of pins and timer, all recorded in IO_CFG (R91, R145 to R147, D35). -/
def configureIo (s : State) : State := { s with ioCfg := true }

/-- IS_BUSY's response (R112): one word more for the host. -/
def respond (w : CommandWord) (s : State) : State := { s with responses := w :: s.responses }

/-- `refuse <Reason>` (R140, R141): REFUSED is set and the refusal recorded; nothing else changes (log 10). -/
def refuse (reason : RefuseReason) (word : CommandWord) (phase : Option Phase) (s : State) : State :=
  { s with
    refused := true
    refusals := { reason := reason, word := word, phase := phase } :: s.refusals }

/-- The word on the command port has been taken; the host's next word follows (R187). -/
def dropCommand (s : State) : State := { s with commands := s.commands.tail }

/-- Power-on reset (R170): the values of R44, with new free values in TC and PORT_HI (log 2). REFUSED stays (R32), as do
the constants, what is not the block's, and what lies on the host's and the environment's side (log 13). -/
def powerOn (s : State) : State :=
  { State.reset with
    stepSpeed := s.stepSpeed
    coilTable := s.coilTable
    refused := s.refused
    refusals := s.refusals
    portHi := Config.portHiAtPowerOn (s.powerCycles + 1)
    tc := Config.tcAtPowerOn (s.powerCycles + 1)
    powerCycles := s.powerCycles + 1
    portLo := s.portLo
    commands := s.commands
    responses := s.responses
    draws := s.draws
    schedule := s.schedule }

end Sys2Proof.Machine
end

