-- ==== Sys2Proof/Machine/Handler.lean ====
section
/-!
DEFINITION. The step handler (43_step_handler.md): MATCH and TICK.
-/

namespace Sys2Proof.Machine

/-- MATCH (R120): always enabled; PEND is set, whatever IE and TC are (D21). -/
def execCompareMatch (s : State) : Result := .next { s with pend := true }

/-- TICK takes its pending flag on entry (R121, R150). -/
def consumePending (s : State) : State := { s with pend := false }

/-- TICK away from the target: one STEP, and the channel is re-armed relative to its compare value (R121, R122). -/
def tickStep (s : State) : State := advanceChannelCompareBy s.stepSpeed (stepCoil s)

/-- TICK at the target: the stop path (R121, R123). -/
def tickStop (s : State) : State :=
  { disableChannelInterrupt (readChannelCompareRegister s) with
    busy := false
    phase := .idle }

/-- TICK (R121): held unless `IE = 1` and `PEND = 1`. -/
def execTick (s : State) : Result :=
  if s.tickEnabled then
    let s := consumePending s
    .next (if s.atTarget then tickStop s else tickStep s)
  else held s

end Sys2Proof.Machine
end

