-- ==== Sys2Proof/Machine/Homing.lean ====
section
/-!
DEFINITION. Initialisation and homing (41_init_homing.md): INIT, SCAN and SETTLE_DONE.
-/

namespace Sys2Proof.Machine

/-- What an enabled INIT does (R90): IDX, POS, TGT, MAXS, PEND, TC and PORT_HI are not written. -/
def startHoming (s : State) : State :=
  { configureIo s with
    mode := Config.half
    dir := wrapS 3 (-1)
    settle := false
    phase := .homeR }

/-- INIT (R90): held unless PHASE is UNINIT or IDLE. -/
def execInit (s : State) : Result :=
  if s.initEnabled then .next (startHoming s) else held s

/-- A homing step: STEP, then the settle delay starts (R93, R98). -/
def homingStep (s : State) : State := { stepCoil s with settle := true }

/-- The right switch is seen pressed: this is home, and the direction turns (R93, R95). -/
def reachRight (s : State) : State :=
  { s with
    pos := 0
    dir := wrapS 3 (-sint s.dir)
    phase := .homeL }

/-- The left switch is seen pressed: the travel range is known and homing is done (R93, R96). -/
def reachLeft (s : State) : State :=
  { s with
    maxs := s.pos
    phase := .idle }

/-- One pass of the homing loop: test the switch of the phase, then step or leave the phase (R93, R94, R100). -/
def scanOnce (s : State) : State :=
  if s.phase = .homeR then
    if isPressed s.draws.limRn then reachRight s else homingStep s
  else
    if isPressed s.draws.limLn then reachLeft s else homingStep s

/-- SCAN (R93): held unless a homing phase runs and no settle delay does. -/
def execScan (s : State) : Result :=
  if s.scanEnabled then .next (scanOnce s) else held s

/-- SETTLE_DONE (R97): held unless a settle delay runs. -/
def execSettleDone (s : State) : Result :=
  if s.settle then .next { s with settle := false } else held s

end Sys2Proof.Machine
end

