-- ==== Sys2Proof/WellFormed.lean ====
section
/-!
DEFINITION. Which instructions an encoding exists for (30_encoding.md rules R66 and R69).
-/

namespace Sys2Proof

/-- The angle operand is one of the integers -32768 .. 32767 (R66); the other rows have no operand. -/
def Instr.wellFormed : Instr → Bool
  | .init => true
  | .setAngle angle => decide (-32768 ≤ angle) && decide (angle ≤ 32767)
  | .setStepModeHalf => true
  | .setStepModeFull => true
  | .isBusy => true
  | .compareMatch => true
  | .tick => true
  | .scan => true
  | .settleDone => true

/-- `i` has an encoding. -/
abbrev Instr.WellFormed (i : Instr) : Prop := i.wellFormed = true

end Sys2Proof
end

