-- ==== Sys2Proof/Decode.lean ====
section
/-!
DEFINITION. Decoding of command words and event codes (30_encoding.md rules R61 to R67), then the encoder written from
the same tables.
-/

namespace Sys2Proof

/-- `OP`, bits 31..28 (R61). -/
def opField (w : CommandWord) : BitVec 4 := w.extractLsb' 28 4

/-- `RSV`, bits 27..16 (R61). -/
def rsvField (w : CommandWord) : BitVec 12 := w.extractLsb' 16 12

/-- `OPD`, bits 15..0 (R61). -/
def opdField (w : CommandWord) : BitVec 16 := w.extractLsb' 0 16

/-- The reserved bits must be 0 before the operand is read (R65). -/
def checkReserved (w : CommandWord) (k : Except RefuseReason Instr) : Except RefuseReason Instr :=
  if rsvField w ≠ 0 then .error .reservedBits else k

/-- A command without operand: `OPD` must be 0 (R65). -/
def checkNoOperand (w : CommandWord) (i : Instr) : Except RefuseReason Instr :=
  if opdField w ≠ 0 then .error .reservedOperand else .ok i

/-- The mode operand: 1 is HALF and 2 is FULL; any other value is refused (R65, R110). -/
def decodeMode (opd : BitVec 16) : Except RefuseReason Instr :=
  if opd = 1 then .ok .setStepModeHalf
  else if opd = 2 then .ok .setStepModeFull
  else .error .badMode

/-- Decoding of a command word, with its checks in the order of R65 (R143). -/
def decodeWord (w : CommandWord) : Except RefuseReason Instr :=
  if opField w = 0x1 then checkReserved w (checkNoOperand w .init)
  else if opField w = 0x2 then checkReserved w (.ok (.setAngle (opdField w).toInt))
  else if opField w = 0x3 then checkReserved w (decodeMode (opdField w))
  else if opField w = 0x4 then checkReserved w (checkNoOperand w .isBusy)
  else .error .reservedOpcode

/-- The event codes of R64; the others name no step. -/
def decodeEvent (e : EventCode) : Option Instr :=
  if e = 0x1 then some .compareMatch
  else if e = 0x2 then some .tick
  else if e = 0x3 then some .scan
  else if e = 0x4 then some .settleDone
  else none

/-- The instruction a fetched code stands for, or the name of the reason there is none. -/
def decode : Code → Except Reject Instr
  | .word w =>
    match decodeWord w with
    | .ok i => .ok i
    | .error r => .error (.refused r)
  | .event e =>
    match decodeEvent e with
    | some i => .ok i
    | none => .error .noSuchEvent

/-- A command word from its operation code and operand, reserved bits 0 (R61). -/
def wordOf (op : BitVec 4) (opd : BitVec 16) : CommandWord := op ++ (0 : BitVec 12) ++ opd

/-- The word of `SET_ANGLE angle`: `OPD = wrap_u(16, angle)` (R69). -/
def setAngleWord (angle : Int) : CommandWord := wordOf 0x2 (BitVec.ofInt 16 angle)

/-- The encoding of an instruction (R63, R64, R69). -/
def encode : Instr → Code
  | .init => .word (wordOf 0x1 0)
  | .setAngle angle => .word (setAngleWord angle)
  | .setStepModeHalf => .word (wordOf 0x3 1)
  | .setStepModeFull => .word (wordOf 0x3 2)
  | .isBusy => .word (wordOf 0x4 0)
  | .compareMatch => .event 0x1
  | .tick => .event 0x2
  | .scan => .event 0x3
  | .settleDone => .event 0x4

/-- A row of the opcode table (R63, R64): a command word matches it when `(word & mask) == match`. -/
inductive Row where
  | word (value mask : CommandWord)
  | event (value mask : EventCode)
deriving DecidableEq, Repr

/-- The table's row of each instruction, its `match` and `mask` columns. -/
def Instr.row : Instr → Row
  | .init => .word 0x10000000 0xFFFFFFFF
  | .setAngle _ => .word 0x20000000 0xFFFF0000
  | .setStepModeHalf => .word 0x30000001 0xFFFFFFFF
  | .setStepModeFull => .word 0x30000002 0xFFFFFFFF
  | .isBusy => .word 0x40000000 0xFFFFFFFF
  | .compareMatch => .event 0x1 0xF
  | .tick => .event 0x2 0xF
  | .scan => .event 0x3 0xF
  | .settleDone => .event 0x4 0xF

/-- Whether a code matches a row (R63). -/
def Row.accepts : Row → Code → Bool
  | .word value mask, .word w => w &&& mask == value
  | .event value mask, .event e => e &&& mask == value
  | .word _ _, .event _ => false
  | .event _ _, .word _ => false

/-- The code that `nbits` bits of value `w` are, numbered as spec/opcode_table.json numbers them: rows of format `E` have
4 bits (one byte in whole bytes), rows of format `C` 32 (log 17). -/
def tableCode (nbits w : Nat) : Option Code :=
  if nbits ≤ 8 then
    if w < 16 then some (.event (BitVec.ofNat 4 w)) else none
  else if nbits ≤ 32 then
    if w < 4294967296 then some (.word (BitVec.ofNat 32 w)) else none
  else none

/-- The instruction the decoder reads from a row's bits. -/
def decodeTableWord (nbits w : Nat) : Option Instr :=
  match tableCode nbits w with
  | some c =>
    match decode c with
    | .ok i => some i
    | .error _ => none
  | none => none

end Sys2Proof
end

