-- ==== Sys2Proof/Machine/Motion.lean ====
section
/-!
DEFINITION. Motion requests (42_motion_requests.md): SET_ANGLE, SET_STEP_MODE and IS_BUSY.
-/

namespace Sys2Proof.Machine

/-- The target and the direction of a move (R105, R107 to R109); the difference is exact (D10). -/
def aim (angle : Int) (s : State) : State :=
  let tgt : Position := wrapS 16 (scaledTarget angle s.maxs)
  { s with
    tgt := tgt
    dir := directionFor s.mode (sint tgt - sint s.pos) }

/-- The channel is armed `STEP_SPEED` ticks after the drawn timer count, its interrupt enabled, and the motion is on
(R105, R145). -/
def startMotion (s : State) : State :=
  { enableChannelInterrupt (armChannelAt (addTicks s.draws.tcnt s.stepSpeed) s) with
    busy := true
    phase := .stepping }

/-- SET_ANGLE (R105): held in homing, refused with NOT_HOMED in UNINIT (R106), a move from IDLE, a new target in
STEPPING (R113). -/
def execSetAngle (angle : Int) (s : State) : Result :=
  if s.ready then
    if s.phase = .uninit then .next (refuse .notHomed (setAngleWord angle) (some s.phase) s)
    else .next (startMotion (aim angle s))
  else held s

/-- SET_STEP_MODE (R110): MODE is written and nothing else (R111). -/
def setMode (mode : ModeBits) (s : State) : Result :=
  if s.ready then .next { s with mode := mode } else held s

/-- SET_STEP_MODE HALF (R110). -/
def execSetStepModeHalf (s : State) : Result := setMode Config.half s

/-- SET_STEP_MODE FULL (R110). -/
def execSetStepModeFull (s : State) : Result := setMode Config.full s

/-- IS_BUSY (R112): the response word and nothing else. -/
def execIsBusy (s : State) : Result :=
  if s.ready then .next (respond (responseWord s.busy) s) else held s

end Sys2Proof.Machine
end

