-- ==== Sys2Proof/Machine/Dispatch.lean ====
section
/-!
DEFINITION. One arm per row of spec/opcode_table.json.
-/

namespace Sys2Proof.Machine

/-- The meaning of each instruction. -/
def exec (i : Instr) (s : State) : Host.Outcome State Fault Refusal :=
  match i with
  | .init => Sys2Proof.Machine.execInit s
  | .setAngle angle => Sys2Proof.Machine.execSetAngle angle s
  | .setStepModeHalf => Sys2Proof.Machine.execSetStepModeHalf s
  | .setStepModeFull => Sys2Proof.Machine.execSetStepModeFull s
  | .isBusy => Sys2Proof.Machine.execIsBusy s
  | .compareMatch => Sys2Proof.Machine.execCompareMatch s
  | .tick => Sys2Proof.Machine.execTick s
  | .scan => Sys2Proof.Machine.execScan s
  | .settleDone => Sys2Proof.Machine.execSettleDone s

end Sys2Proof.Machine
end

