-- ==== Sys2Proof/Machine/Fetch.lean ====
section
/-!
DEFINITION. What the next turn presents to the machine: the word on the command port, an event code, or power-on
(00_scope.md rules R11 and R18, 30_encoding.md rules R60 and R62, 70_reset_and_hazards.md rule R187).
-/

namespace Sys2Proof.Machine

/-- What a turn presents. -/
inductive Fetched where
  /-- No instruction runs; the turn leaves this state. -/
  | quiet (s : State)
  /-- This instruction runs from this state. -/
  | run (i : Instr) (s : State)
deriving DecidableEq, Repr

/-- The next turn is taken: its draws are those of the step (log 7). -/
def takeTurn (t : Turn) (later : List Turn) (s : State) : State :=
  { s with schedule := later, draws := t.draws }

/-- HOST's turn. A word that decodes is run, and leaves the port unless it is held (R187). A word that does not is
refused once READY is 1; until then it is not delivered (R60, R140; log 9). -/
def fetchWord (w : CommandWord) (s : State) : Fetched :=
  match decodeWord w with
  | .ok i => .run i (if enabled i s then dropCommand s else s)
  | .error r => .quiet (if s.ready then refuse r w none (dropCommand s) else s)

/-- Another agent's turn: a code that names no step is never enabled (R64). -/
def fetchEvent (e : EventCode) (s : State) : Fetched :=
  match decodeEvent e with
  | some i => .run i s
  | none => .quiet s

/-- What the mover of a turn presents; a host with nothing to issue takes no step. -/
def fetchMover (m : Mover) (s : State) : Fetched :=
  match m with
  | .host =>
    match s.commands with
    | [] => .quiet s
    | w :: _ => fetchWord w s
  | .event e => fetchEvent e s
  | .powerOn => .quiet (powerOn s)

/-- What the next turn presents; with no turn to come the machine waits (R170; log 6). -/
def fetch (s : State) : Fetched :=
  match s.schedule with
  | [] => .quiet s
  | t :: later => fetchMover t.mover (takeTurn t later s)

/-- A code placed where the next step fetches it: on the command port with HOST to move next, or as the next event. The
turn keeps the draws that stand in the state (log 17). -/
def placeCode (c : Code) (s : State) : State :=
  match c with
  | .word w =>
    { s with
      commands := w :: s.commands
      schedule := { mover := .host, draws := s.draws } :: s.schedule }
  | .event e => { s with schedule := { mover := .event e, draws := s.draws } :: s.schedule }

end Sys2Proof.Machine
end

