-- ==== Sys2Proof/Machine/Step.lean ====
section
/-!
DEFINITION. One atomic step (20_memory.md rule R55): the next turn is taken and the instruction it presents runs.
-/

namespace Sys2Proof.Machine

/-- One step of the machine. -/
def step (s : State) : Host.Outcome State Fault Refusal :=
  match fetch s with
  | .quiet t => .next t
  | .run i t => exec i t

/-- The state with a table row's bits where the next step fetches its instruction (log 17). -/
def State.withFetchWord (s : State) (nbits w : Nat) : State :=
  match tableCode nbits w with
  | some c => placeCode c s
  | none => s

end Sys2Proof.Machine
end

