-- ==== Sys2Proof/Safety.lean ====
section
/-!
DEFINITION. The terms claims are stated in: clean runs, the invariants of 10_state.md rule R43, reachable states, runs of
several instructions, and fair runs (43_step_handler.md rule R128, 92_eei_decisions.md D34).
-/

namespace Sys2Proof.Machine

/-- A run is clean while no command of it was refused (R32, R140). -/
def State.Clean (s : State) : Prop := s.refused = false

/-- The invariants of R43. Items 1 and 2 hold of every State by its types: `idx` has 3 bits and `phase` one of five
values. -/
structure BlockInv (s : State) : Prop where
  /-- Item 3, BUSY. -/
  busyIffStepping : s.busy = true ↔ s.phase = .stepping
  /-- Item 3, IE. -/
  ieIffStepping : s.ie = true ↔ s.phase = .stepping
  /-- Item 4. -/
  configured : s.ioCfg = true ↔ s.phase ≠ .uninit
  /-- Item 5. -/
  settling : s.settle = true → s.homing = true
  /-- Item 6, MODE; "once an INIT has been accepted" is PHASE not UNINIT, by item 4. -/
  modeLegal : s.phase ≠ .uninit → s.mode = Config.half ∨ s.mode = Config.full
  /-- Item 6, DIR. -/
  dirLegal : s.phase ≠ .uninit → sint s.dir ∈ [-2, -1, 1, 2]
  /-- Item 7. -/
  homingDir : s.homing = true → sint s.dir ∈ [-1, 1]
  /-- Item 8. -/
  portShowsIndex : s.portHiHasValue = true → s.portHi = s.patternAt s.idx

/-- The channel is armed while its interrupt is enabled: TC has a value by then (R35, G9). -/
def Armed (s : State) : Prop := s.ie = true → s.tcHasValue = true

/-- Turns and command words that come from outside are added behind those already there. -/
def offer (turns : List Turn) (words : List CommandWord) (s : State) : State :=
  { s with schedule := s.schedule ++ turns, commands := s.commands ++ words }

/-- The states some run from power-on reaches, whatever the host issues, the environment draws and the order of the
agents is. -/
inductive Reachable : State → Prop where
  | reset : Reachable State.reset
  | offered (turns : List Turn) (words : List CommandWord) {s : State} :
      Reachable s → Reachable (offer turns words s)
  | stepped {s t : State} : Reachable s → step s = .next t → Reachable t

/-- The instruction completes, and the state it leaves satisfies `P`. -/
def Leads (i : Instr) (s : State) (P : State → Prop) : Prop := ∃ t, exec i s = .next t ∧ P t

/-- An instruction with the draws of its step. -/
abbrev Drawn := Instr × Draws

/-- Instructions run one after another, each with its draws. -/
def execAll : List Drawn → State → Result
  | [], s => .next s
  | x :: later, s =>
    match exec x.1 { s with draws := x.2 } with
    | .next t => execAll later t
    | .fault r => .fault r
    | .refused r => .refused r

/-- The instructions complete, and the state they leave satisfies `P`. -/
def LeadsAll (l : List Drawn) (s : State) (P : State → Prop) : Prop := ∃ t, execAll l s = .next t ∧ P t

/-- How many TICKs are taken, not held, while the instructions run. -/
def takenTicks : List Drawn → State → Nat
  | [], _ => 0
  | x :: later, s =>
    match exec x.1 { s with draws := x.2 } with
    | .next t => (if x.1 = .tick ∧ s.tickEnabled = true then 1 else 0) + takenTicks later t
    | .fault _ => 0
    | .refused _ => 0

/-- No command that changes TGT or DIR (R115): neither SET_ANGLE nor INIT. -/
def keepsTrajectory : Instr → Bool
  | .init => false
  | .setAngle _ => false
  | .setStepModeHalf => true
  | .setStepModeFull => true
  | .isBusy => true
  | .compareMatch => true
  | .tick => true
  | .scan => true
  | .settleDone => true

/-- The number of TICKs until BUSY returns to 0 (R115), `none` for a motion that never ends (R181). -/
def motionTicks (mode : ModeBits) (diff : Int) : Option Nat :=
  if mode = Config.full then
    if diff % 2 = 0 then some (diff.natAbs / 2 + 1) else none
  else some (diff.natAbs + 1)

/-- Homing passes that find their switch not pressed: SCAN steps and SETTLE_DONE follows, with the draws of each. -/
def homingPasses : List (Draws × Draws) → List Drawn
  | [] => []
  | d :: later => (.scan, d.1) :: (.settleDone, d.2) :: homingPasses later

/-- SCAN or SETTLE_DONE. -/
def isHomingEvent (x : Drawn) : Bool := x.1 == .scan || x.1 == .settleDone

/-- An unbounded run: at each point the environment lets one mover move, with its draws, and the host may have brought
further words. -/
def IsRun (st : Nat → State) (turn : Nat → Turn) (words : Nat → List CommandWord) : Prop :=
  ∀ n, step { st n with schedule := [turn n], commands := (st n).commands ++ words n } = .next (st (n + 1))

/-- Weak fairness of one event: if from some point on it stays demanded, its turn comes. -/
def FairFor (demanded : State → Bool) (code : EventCode) (st : Nat → State) (turn : Nat → Turn) : Prop :=
  ∀ n, (∀ m, n ≤ m → demanded (st m) = true) → ∃ m, n ≤ m ∧ (turn m).mover = .event code

/-- Weak fairness (R128, D34): of MATCH while `IE = 1`, and of TICK, SCAN and SETTLE_DONE while each is enabled. The
switches get none. -/
structure WeaklyFair (st : Nat → State) (turn : Nat → Turn) : Prop where
  fairMatch : FairFor State.ie 0x1 st turn
  fairTick : FairFor (enabled .tick) 0x2 st turn
  fairScan : FairFor (enabled .scan) 0x3 st turn
  fairSettleDone : FairFor (enabled .settleDone) 0x4 st turn

end Sys2Proof.Machine
end

