-- ==== Sys2Proof/Certificates/Slice0/Obligations.lean ====
section
/-!
DEFINITION. The statements for the provers. A docstring names the rule of spec/ a statement formalises; where a rule rests
on a decision the spec marks as its own (D<n> of 92_eei_decisions.md), on an inference it marks "derived", or on a choice of
the model (log n), the docstring says so, and the statement is listed as derived.
-/

open Sys2Proof Sys2Proof.Machine

/-! ### Encoding -/

/-- The example words of R71 and of 95_test_vectors.md decode as listed, and the event codes of R64 name their steps. The
encoding is the spec's own (D2, D3, D4). -/
def Obligations.SpecExampleWordsDecode : Prop :=
  decodeWord 0x10000000 = .ok .init ∧
  decodeWord 0x2000005A = .ok (.setAngle 90) ∧
  decodeWord 0x200000B3 = .ok (.setAngle 179) ∧
  decodeWord 0x200000B4 = .ok (.setAngle 180) ∧
  decodeWord 0x2000FFA6 = .ok (.setAngle (-90)) ∧
  decodeWord 0x20008000 = .ok (.setAngle (-32768)) ∧
  decodeWord 0x30000001 = .ok .setStepModeHalf ∧
  decodeWord 0x30000002 = .ok .setStepModeFull ∧
  decodeWord 0x40000000 = .ok .isBusy ∧
  decodeWord 0x00000000 = .error .reservedOpcode ∧
  decodeWord 0x5000005A = .error .reservedOpcode ∧
  decodeWord 0xF0000000 = .error .reservedOpcode ∧
  decodeWord 0x2001005A = .error .reservedBits ∧
  decodeWord 0x1FFF0000 = .error .reservedBits ∧
  decodeWord 0x30000000 = .error .badMode ∧
  decodeWord 0x30000003 = .error .badMode ∧
  decodeWord 0x3000FFFF = .error .badMode ∧
  decodeWord 0x10000001 = .error .reservedOperand ∧
  decodeWord 0x40000001 = .error .reservedOperand ∧
  decodeEvent 0x1 = some .compareMatch ∧
  decodeEvent 0x2 = some .tick ∧
  decodeEvent 0x3 = some .scan ∧
  decodeEvent 0x4 = some .settleDone

/-- Decoding an encoded well-formed instruction gives it back, for every angle of R66 (R63 to R66, R69; D2, D3). -/
def Obligations.DecodeOfEncode : Prop :=
  ∀ i : Instr, i.WellFormed → decode (encode i) = .ok i

/-- Each code that decodes has one meaning, and that meaning's encoding is the code itself (R63 to R65; D2, D3). -/
def Obligations.EncodeOfDecode : Prop :=
  ∀ (c : Code) (i : Instr), decode c = .ok i → i.WellFormed ∧ encode i = c

/-- A word decodes exactly when it matches a row of R63's table, `(word & mask) == match`, and it decodes to a row it
matches (D3). -/
def Obligations.WordDecodesIffItMatchesARow : Prop :=
  ∀ w : CommandWord,
    ((∃ i, decodeWord w = .ok i) ↔ ∃ i : Instr, i.row.accepts (.word w) = true) ∧
    ∀ i, decodeWord w = .ok i → i.row.accepts (.word w) = true

/-- The refusal of a word, its reason and the order of the checks (R65, R141 codes 1 to 4, R143; D4): the fields are
`OP`, `RSV` and `OPD` of the word read as a number. -/
def Obligations.RefusalReasonsInOrder : Prop :=
  ∀ w : CommandWord,
    let op := w.toNat / 2 ^ 28
    let rsv := w.toNat / 2 ^ 16 % 2 ^ 12
    let opd := w.toNat % 2 ^ 16
    (decodeWord w = .error .reservedOpcode ↔ op = 0 ∨ 5 ≤ op) ∧
    (decodeWord w = .error .reservedBits ↔ (1 ≤ op ∧ op ≤ 4) ∧ rsv ≠ 0) ∧
    (decodeWord w = .error .reservedOperand ↔ (op = 1 ∨ op = 4) ∧ rsv = 0 ∧ opd ≠ 0) ∧
    (decodeWord w = .error .badMode ↔ op = 3 ∧ rsv = 0 ∧ opd ≠ 1 ∧ opd ≠ 2) ∧
    decodeWord w ≠ .error .notHomed

/-! ### The step -/

/-- A step at an agent's turn is exec of the instruction its event code decodes to, with the turn taken and its draws in
place (R62, R64; the schedule and the draws are the model's, log 6 and 7). -/
def Obligations.EventTurnRunsItsStep : Prop :=
  ∀ (s : State) (e : EventCode) (d : Draws) (later : List Turn) (i : Instr),
    s.schedule = { mover := .event e, draws := d } :: later → decode (.event e) = .ok i →
    step s = exec i { s with schedule := later, draws := d }

/-- A step at HOST's turn is exec of the instruction the word on the command port decodes to. The word leaves the port
when its command is enabled; else the command is held, exec changes nothing, and the word stays (R60, R187; the turn and
its draws are the model's, log 6, 7 and 8). -/
def Obligations.CommandTurnRunsTheWord : Prop :=
  ∀ (s : State) (d : Draws) (later : List Turn) (w : CommandWord) (ws : List CommandWord) (i : Instr),
    s.schedule = { mover := .host, draws := d } :: later → s.commands = w :: ws → decode (.word w) = .ok i →
    (enabled i s = true → step s = exec i { s with schedule := later, draws := d, commands := ws }) ∧
    (enabled i s = false →
      step s = exec i { s with schedule := later, draws := d } ∧
      exec i { s with schedule := later, draws := d } = .next { s with schedule := later, draws := d })

/-- A word that does not decode is refused once READY is 1: REFUSED is set, the reason and the word are recorded, nothing
else of the block changes, and the host goes on (R140, R141, D4; log 9 and 10). -/
def Obligations.UndecodableWordIsRefused : Prop :=
  ∀ (s : State) (d : Draws) (later : List Turn) (w : CommandWord) (ws : List CommandWord) (r : RefuseReason),
    s.schedule = { mover := .host, draws := d } :: later → s.commands = w :: ws → decodeWord w = .error r →
    ((s.phase ≠ .homeR ∧ s.phase ≠ .homeL) →
      step s = .next { s with
        schedule := later, draws := d, commands := ws, refused := true,
        refusals := { reason := r, word := w, phase := none } :: s.refusals }) ∧
    ((s.phase = .homeR ∨ s.phase = .homeL) → step s = .next { s with schedule := later, draws := d })

/-- Where no agent can move nothing happens: no turn to come, a host with nothing to issue, an event code that names no
step (R64, R170; the schedule is the model's, log 6). -/
def Obligations.QuietTurnsChangeNothing : Prop :=
  (∀ s : State, s.schedule = [] → step s = .next s) ∧
  (∀ (s : State) (d : Draws) (later : List Turn),
    s.schedule = { mover := .host, draws := d } :: later → s.commands = [] →
    step s = .next { s with schedule := later, draws := d }) ∧
  (∀ (s : State) (e : EventCode) (d : Draws) (later : List Turn),
    s.schedule = { mover := .event e, draws := d } :: later → (e = 0 ∨ 5 ≤ e.toNat) →
    step s = .next { s with schedule := later, draws := d })

/-- Power-on from any state gives the block's registers the values of R44, leaves TC and PORT_HI without a value, and keeps
REFUSED and the constants (R32, R170, R172; D26, D36; how "no value" is held is log 2, the turn and that port bits 3..0
stay is log 13). -/
def Obligations.PowerOnTurnResets : Prop :=
  ∀ (s : State) (d : Draws) (later : List Turn),
    s.schedule = { mover := .powerOn, draws := d } :: later →
    ∃ t, step s = .next t ∧
      t.phase = .uninit ∧ t.settle = false ∧ t.idx = 0 ∧ t.pos = 0 ∧ t.tgt = 0 ∧ t.mode = 1 ∧ t.dir = 0 ∧ t.maxs = 0 ∧
      t.busy = false ∧ t.ie = false ∧ t.pend = false ∧ t.ioCfg = false ∧ t.tcHasValue = false ∧
      t.portHiHasValue = false ∧
      t.refused = s.refused ∧ t.stepSpeed = s.stepSpeed ∧ t.coilTable = s.coilTable ∧ t.portLo = s.portLo

/-- Every step of the machine answers a next state. R140 (D4) says that the block raises no exception; that held steps
(R17), refused commands and steps of every kind are next states of the model is the model's, log 8, 10 and 18. -/
def Obligations.EveryStepAnswersNext : Prop :=
  ∀ s : State, ∃ t, step s = .next t

/-- A held command is not lost (R187; D19; refusals R140, D4): a step leaves the host's words as they are, or takes exactly the word on the
port, at HOST's turn and with READY = 1; and the word it takes is that of an enabled command, which this very step runs,
or one that does not decode, which this step refuses. The list of words, the turns and the held word are the model's, log
5, 6 and 8; so is that no undecodable word leaves the port in homing, log 9, that a refused word is a next state which takes
it from the port and records it, log 10, and that words survive a power cycle, log 13. -/
def Obligations.NoCommandIsLost : Prop :=
  ∀ s t : State, step s = .next t →
    t.commands = s.commands ∨
    ∃ w d later, s.commands = w :: t.commands ∧ s.schedule = { mover := .host, draws := d } :: later ∧
      s.phase ≠ .homeR ∧ s.phase ≠ .homeL ∧
      ((∃ i, decodeWord w = .ok i ∧ enabled i s = true ∧
          exec i { s with schedule := later, draws := d, commands := t.commands } = .next t) ∨
        ∃ r, decodeWord w = .error r ∧ t.refused = true ∧
          t.refusals = { reason := r, word := w, phase := none } :: s.refusals)

/-! ### The coil sequencer -/

/-- R81: the index after a STEP is `(idx + direction) & 7`, the true remainder modulo 8. -/
def Obligations.IndexWrapsModEight : Prop :=
  ∀ s : State,
    ((stepCoil s).idx.toNat : Int) = ((s.idx.toNat : Int) + s.dir.toInt) % 8 ∧
    (stepCoil s).idx = (((s.idx.setWidth 8 + s.dir.signExtend 8) &&& 7).setWidth 3 : BitVec 3) ∧
    (stepCoil s).idx.toNat < 8

/-- R82: STEP applies the pattern at the index just advanced to the high nibble, and port bits 3..0 are unchanged. -/
def Obligations.PatternAppliedToHighNibble : Prop :=
  ∀ s : State,
    (stepCoil s).portHi = s.coilTable[(stepCoil s).idx.toNat]'(stepCoil s).idx.isLt ∧
    (stepCoil s).portLo = s.portLo

/-- R83 and the rest of R80: the position moves by the direction with 16-bit wrap, and STEP writes IDX, PORT_HI and POS
only (the wrap is D9, the order D13; that PORT_HI then has a value is a mark, log 2). -/
def Obligations.PositionMovesByDirection : Prop :=
  ∀ s : State,
    (stepCoil s).pos.toInt = Int.bmod (s.pos.toInt + s.dir.toInt) 65536 ∧
    stepCoil s =
      { s with
        idx := (stepCoil s).idx, portHi := (stepCoil s).portHi, portHiHasValue := true, pos := (stepCoil s).pos }

/-- R51: a masked write gives `(P & ~mask) | (X & mask)`, bit by bit the value's bit where the mask has one and the
port's elsewhere, and this is what `PortForce` does to the whole port; with the block's mask and a port-aligned pattern
PORT_HI is the pattern and nothing else changes (but for the mark that PORT_HI has a value, R33). No instruction writes
the port otherwise: it keeps it, or makes that one write with the entry at its index. -/
def Obligations.MaskedPortWrite : Prop :=
  (∀ (port mask value : PortByte) (i : Nat), i < 8 →
    (forceBits port mask value).getLsbD i = if mask.getLsbD i then value.getLsbD i else port.getLsbD i) ∧
  (∀ port mask value : PortByte, forceBits port mask value = (port &&& ~~~mask) ||| (value &&& mask)) ∧
  (∀ (s : State) (mask value : PortByte),
    (portForce mask value s).portHi ++ (portForce mask value s).portLo =
      (((s.portHi ++ s.portLo) &&& ~~~mask) ||| (value &&& mask) : PortByte)) ∧
  (∀ (s : State) (p : Pattern), portForce 0xF0 (p ++ (0 : BitVec 4)) s =
    { s with portHi := p, portHiHasValue := (portForce 0xF0 (p ++ (0 : BitVec 4)) s).portHiHasValue }) ∧
  (∀ (i : Instr) (s t : State), exec i s = .next t →
    (t.portHi = s.portHi ∧ t.portLo = s.portLo) ∨
    (t.portHi = (portForce 0xF0 (t.patternAt t.idx ++ (0 : BitVec 4)) s).portHi ∧
      t.portLo = (portForce 0xF0 (t.patternAt t.idx ++ (0 : BitVec 4)) s).portLo))

/-- R86 (derived in the spec): `k` STEPs with DIR held move index and position by `k` times the direction, and from the
first on the port shows the pattern at the index. -/
def Obligations.RepeatedStepsAreLinear : Prop :=
  ∀ (k : Nat) (s : State),
    (stepCoil^[k] s).idx = BitVec.ofInt 3 ((s.idx.toNat : Int) + k * s.dir.toInt) ∧
    (stepCoil^[k] s).pos = BitVec.ofInt 16 (s.pos.toInt + k * s.dir.toInt) ∧
    (1 ≤ k → (stepCoil^[k] s).portHi = s.patternAt (stepCoil^[k] s).idx ∧ (stepCoil^[k] s).portHiHasValue = true) ∧
    stepCoil^[k] s =
      { s with
        idx := (stepCoil^[k] s).idx, portHi := (stepCoil^[k] s).portHi,
        portHiHasValue := (stepCoil^[k] s).portHiHasValue, pos := (stepCoil^[k] s).pos }

/-- R87 (derived in the spec): a direction of magnitude 2 keeps the parity of IDX and of POS through any number of STEPs,
the wraps included. -/
def Obligations.FullStepKeepsParity : Prop :=
  ∀ (k : Nat) (s : State), (s.dir.toInt = 2 ∨ s.dir.toInt = -2) →
    (stepCoil^[k] s).idx.toNat % 2 = s.idx.toNat % 2 ∧
    (stepCoil^[k] s).pos.toInt % 2 = s.pos.toInt % 2

/-! ### Initialisation and homing -/

/-- R90: an enabled INIT completes; it writes IO_CFG, MODE, DIR, SETTLE and PHASE and nothing else (when it is enabled and
what it writes is D17; IO_CFG is D35). -/
def Obligations.InitStartsHoming : Prop :=
  ∀ s : State, (s.phase = .uninit ∨ s.phase = .idle) →
    exec .init s = .next { s with ioCfg := true, mode := 1, dir := -1, settle := false, phase := .homeR }

/-- A step whose enabling condition is false is held: it changes nothing (R17, R18 and the enabling conditions of R64, R90,
R93, R97, R105, R110, R112, R121; D17, D19, D29; log 8). -/
def Obligations.DisabledStepsAreHeld : Prop :=
  ∀ s : State,
    ((s.phase = .homeR ∨ s.phase = .homeL ∨ s.phase = .stepping) → exec .init s = .next s) ∧
    ((s.phase = .homeR ∨ s.phase = .homeL) →
      (∀ angle, exec (.setAngle angle) s = .next s) ∧ exec .setStepModeHalf s = .next s ∧
      exec .setStepModeFull s = .next s ∧ exec .isBusy s = .next s) ∧
    ((s.ie = false ∨ s.pend = false) → exec .tick s = .next s) ∧
    ((s.phase ≠ .homeR ∧ s.phase ≠ .homeL ∨ s.settle = true) → exec .scan s = .next s) ∧
    (s.settle = false → exec .settleDone s = .next s)

/-- R93: one iteration of the homing loop, its four ways to run, and when it is enabled. A pressed right switch sets home
and turns the direction; a pressed left switch ends homing with MAXS taken from POS; a switch not pressed gives one STEP
(R80, whose effect the statements on the coil sequencer give) and a settle delay. That a SCAN which is not enabled answers
the same state is the model's, log 8. -/
def Obligations.ScanTestsThenStepsOrLeaves : Prop :=
  decodeEvent 0x3 = some .scan ∧
  ∀ s : State,
    (s.phase = .homeR → s.settle = false → s.draws.limRn = 0 →
      exec .scan s = .next { s with pos := 0, dir := -s.dir, phase := .homeL }) ∧
    (s.phase = .homeR → s.settle = false → s.draws.limRn = 1 →
      exec .scan s = .next { stepCoil s with settle := true }) ∧
    (s.phase = .homeL → s.settle = false → s.draws.limLn = 0 →
      exec .scan s = .next { s with maxs := s.pos, phase := .idle }) ∧
    (s.phase = .homeL → s.settle = false → s.draws.limLn = 1 →
      exec .scan s = .next { stepCoil s with settle := true }) ∧
    ((s.phase ≠ .homeR ∧ s.phase ≠ .homeL ∨ s.settle = true) → exec .scan s = .next s)

/-- R97: SETTLE_DONE is enabled when SETTLE = 1 and clears it, and does nothing else; while SETTLE = 1 no instruction, so no
agent's step, changes PHASE (a power cycle, log 13, is no agent's step); right after it, in a homing phase, SCAN is
enabled. That a SETTLE_DONE which is not enabled answers the same state is the model's, log 8. -/
def Obligations.SettleDoneEndsTheDelay : Prop :=
  decodeEvent 0x4 = some .settleDone ∧
  (∀ (i : Instr) (s t : State), BlockInv s → s.settle = true → exec i s = .next t → t.phase = s.phase) ∧
  ∀ s : State,
    (s.settle = true → exec .settleDone s = .next { s with settle := false }) ∧
    (s.settle = true → (s.phase = .homeR ∨ s.phase = .homeL) → enabled .scan { s with settle := false } = true) ∧
    (s.settle = false → exec .settleDone s = .next s)

/-- R102 and R175 (derived in the spec): from INIT, with the right switch first seen pressed after `a` homing steps and
the left after `b` more, and with any other instructions in between, homing ends as stated (a step that is not enabled
answers the same state, log 8; whether PORT_HI has a value is a mark, log 2; a power cycle is no instruction, log 13). -/
def Obligations.HomingOutcome : Prop :=
  ∀ (s : State) (l : List Drawn) (rights lefts : List (Draws × Draws)) (dr dl : Draws),
    BlockInv s → (s.phase = .uninit ∨ s.phase = .idle) →
    (∀ x ∈ rights, x.1.limRn = 1) → dr.limRn = 0 → (∀ x ∈ lefts, x.1.limLn = 1) → dl.limLn = 0 →
    l.filter isHomingEvent = homingPasses rights ++ (.scan, dr) :: homingPasses lefts →
    Leads .init s fun t => LeadsAll (l ++ [(.scan, dl)]) t fun u =>
      u.phase = .idle ∧ u.ready = true ∧ u.dir.toInt = 1 ∧ u.mode = 1 ∧
      u.pos = BitVec.ofNat 16 lefts.length ∧ u.maxs = BitVec.ofNat 16 lefts.length ∧
      u.idx = BitVec.ofInt 3 ((s.idx.toNat : Int) - rights.length + lefts.length) ∧
      u.portHi = (if rights.length + lefts.length = 0 then s.portHi else u.patternAt u.idx) ∧
      (u.portHiHasValue = true ↔ s.portHiHasValue = true ∨ 0 < rights.length + lefts.length) ∧
      u.busy = false ∧ u.ie = false ∧ u.settle = false ∧ u.ioCfg = true ∧ u.tgt = s.tgt ∧ u.tc = s.tc ∧
      u.tcHasValue = s.tcHasValue

/-- R99 and R180 (D15): while the switch of the homing phase does not read pressed, no steps of any agents end the phase,
and READY stays 0 (a step that is not enabled answers the same state, log 8; a power cycle is no instruction, log 13). -/
def Obligations.HomingHangsUntilPressed : Prop :=
  ∀ (s : State) (l : List Drawn), BlockInv s →
    (s.phase = .homeR → (∀ x ∈ l, x.2.limRn = 1) →
      LeadsAll l s fun u => u.phase = .homeR ∧ u.ready = false) ∧
    (s.phase = .homeL → (∀ x ∈ l, x.2.limLn = 1) →
      LeadsAll l s fun u => u.phase = .homeL ∧ u.ready = false)

/-- R103: during homing IE is 0, so a TICK is held; so is a SET_ANGLE, which could enable it; a MATCH sets PEND and nothing
else, and a later SET_ANGLE clears PEND as it arms the channel. That a step which is not enabled answers the same state is
the model's, log 8. -/
def Obligations.HomingAndHandlerNeverOverlap : Prop :=
  (∀ s : State, BlockInv s → (s.phase = .homeR ∨ s.phase = .homeL) →
    s.ie = false ∧ exec .tick s = .next s ∧ (∀ angle, exec (.setAngle angle) s = .next s) ∧
    exec .compareMatch s = .next { s with pend := true }) ∧
  (∀ (s : State) (angle : Int), (s.phase = .idle ∨ s.phase = .stepping) →
    Leads (.setAngle angle) s fun t => t.pend = false ∧ t.ie = true)

/-- R100: SCAN is the only step that reads a switch, and it reads only the switch of its phase: any other level of the
other switches changes nothing but the draw itself. -/
def Obligations.SwitchesReadOnlyByScan : Prop :=
  (∀ (i : Instr) (s : State) (right left : Level), i ≠ .scan →
    ∃ t, exec i s = .next t ∧
      exec i { s with draws := { s.draws with limRn := right, limLn := left } } =
        .next { t with draws := { s.draws with limRn := right, limLn := left } }) ∧
  (∀ (s : State) (left : Level), s.phase = .homeR →
    ∃ t, exec .scan s = .next t ∧
      exec .scan { s with draws := { s.draws with limLn := left } } =
        .next { t with draws := { s.draws with limLn := left } }) ∧
  (∀ (s : State) (right : Level), s.phase = .homeL →
    ∃ t, exec .scan s = .next t ∧
      exec .scan { s with draws := { s.draws with limRn := right } } =
        .next { t with draws := { s.draws with limRn := right } })

/-- R92: of all instructions exactly the SCAN that sees the left switch pressed, and writes PHASE to IDLE, brings READY back
to 1 (a power cycle is no instruction, log 13); until then no HOST command is enabled. That a held command answers the
same state is the model's, log 8. -/
def Obligations.ReadyReturnsOnlyAtHomingsEnd : Prop :=
  ∀ (i : Instr) (s t : State), BlockInv s → s.ready = false → exec i s = .next t →
    (t.ready = true ↔ i = .scan ∧ s.phase = .homeL ∧ s.settle = false ∧ s.draws.limLn = 0) ∧
    (t.ready = true → t.phase = .idle) ∧
    (i.agent = .host → enabled i s = false ∧ t = s)

/-! ### Motion requests -/

/-- R105: SET_ANGLE completes in IDLE and STEPPING, for every angle and every draw of the timer count: it writes TGT, DIR,
TC, PEND, IE, BUSY and PHASE and nothing else (folding D6, scaling D7, wraps D8 and D9, direction D10, timer D21, D22);
TC has a value from then on (R35, the mark is log 2). -/
def Obligations.SetAngleStartsMotion : Prop :=
  ∀ (angle : Int) (s : State), (s.phase = .idle ∨ s.phase = .stepping) →
    let tgt : Position := BitVec.ofInt 16 ((angle.tmod 180 * (s.maxs.toNat : Int)).tdiv 180)
    exec (.setAngle angle) s = .next { s with
      tgt := tgt
      dir := if tgt.toInt - s.pos.toInt > 0 then s.mode.setWidth 3 else -(s.mode.setWidth 3)
      tc := s.draws.tcnt + s.stepSpeed
      tcHasValue := true
      pend := false
      ie := true
      busy := true
      phase := .stepping }

/-- R106, R140 and R141 code 5 (D4, D18): in UNINIT SET_ANGLE is refused with NOT_HOMED; REFUSED is set, the command word
and PHASE are recorded, and nothing else changes. -/
def Obligations.SetAngleBeforeInitIsRefused : Prop :=
  ∀ (angle : Int) (s : State), s.phase = .uninit →
    exec (.setAngle angle) s = .next { s with
      refused := true
      refusals :=
        { reason := .notHomed, word := 0x20000000 ||| (BitVec.ofInt 16 angle).setWidth 32, phase := some .uninit }
          :: s.refusals }

/-- R113: a SET_ANGLE in STEPPING runs in full from the position reached so far, and whatever follows that sets no other
target, a motion that ends rests at the new target.
A step that is not enabled answers the same state, log 8. -/
def Obligations.RetargetAbandonsTheOldMotion : Prop :=
  ∀ (angle : Int) (s : State), s.phase = .stepping →
    Leads (.setAngle angle) s fun t =>
      t.phase = .stepping ∧ t.busy = true ∧
      t.tgt = BitVec.ofInt 16 ((angle.tmod 180 * (s.maxs.toNat : Int)).tdiv 180) ∧
      t.dir = (if t.tgt.toInt > s.pos.toInt then s.mode.setWidth 3 else -(s.mode.setWidth 3)) ∧
      t.tc = s.draws.tcnt + s.stepSpeed ∧ t.pos = s.pos ∧
      ∀ l : List Drawn, (∀ x ∈ l, keepsTrajectory x.1 = true) →
        LeadsAll l t fun u => u.tgt = t.tgt ∧ (u.busy = false → u.pos = t.tgt)

/-- R107 (D6): the fold is the truncating remainder: below 180 in magnitude, congruent to the angle, and of its sign; with
the values R107 lists. -/
def Obligations.AngleFoldIsTruncatingRemainder : Prop :=
  (∀ angle : Int,
    -179 ≤ foldAngle angle ∧ foldAngle angle ≤ 179 ∧ (180 ∣ angle - foldAngle angle) ∧
    (0 ≤ angle → 0 ≤ foldAngle angle) ∧ (angle ≤ 0 → foldAngle angle ≤ 0)) ∧
  [0, 90, 179, 180, 359, 360, -1, -90, -180, -181, 32767, -32768].map foldAngle =
    [0, 90, 179, 0, 179, 0, -1, -90, 0, -1, 7, -8]

/-- R108's consequence (derived in the spec; D7, D9): for an angle in 0..179 and a travel range up to 32767 the target lies
within the range, and is the exact scaled angle. -/
def Obligations.TargetWithinTravel : Prop :=
  ∀ (angle : Int) (s : State), (s.phase = .idle ∨ s.phase = .stepping) → 0 ≤ angle → angle ≤ 179 →
    s.maxs.toNat ≤ 32767 →
    Leads (.setAngle angle) s fun t =>
      0 ≤ t.tgt.toInt ∧ t.tgt.toInt ≤ s.maxs.toNat ∧ t.tgt.toInt = angle * s.maxs.toNat / 180

/-- R182 (derived in the spec; D9): beyond that range the target wraps to a negative position. -/
def Obligations.WideTravelWrapsTarget : Prop :=
  ∀ (angle : Int) (s : State), (s.phase = .idle ∨ s.phase = .stepping) → 0 ≤ angle → angle ≤ 179 →
    32767 < angle * s.maxs.toNat / 180 →
    Leads (.setAngle angle) s fun t =>
      t.tgt.toInt = angle * s.maxs.toNat / 180 - 65536 ∧ t.tgt.toInt < 0

/-- R109 (D10, D11): with a legal mode the direction is the mode's magnitude toward a target ahead and its negative
otherwise, from the exact difference. -/
def Obligations.DirectionFollowsExactDifference : Prop :=
  ∀ (angle : Int) (s : State), (s.phase = .idle ∨ s.phase = .stepping) → (s.mode = 1 ∨ s.mode = 2) →
    Leads (.setAngle angle) s fun t =>
      (s.pos.toInt < t.tgt.toInt → t.dir.toInt = s.mode.toNat) ∧
      (t.tgt.toInt ≤ s.pos.toInt → t.dir.toInt = -(s.mode.toNat : Int))

/-- R110: SET_STEP_MODE writes MODE and nothing else when READY = 1, is held otherwise, and an operand outside {1, 2} is
refused at decode with BAD_MODE. That a held command answers the same state is the model's, log 8. -/
def Obligations.SetStepModeWritesMode : Prop :=
  (∀ s : State, s.phase ≠ .homeR → s.phase ≠ .homeL →
    exec .setStepModeHalf s = .next { s with mode := 1 } ∧ exec .setStepModeFull s = .next { s with mode := 2 }) ∧
  (∀ s : State, (s.phase = .homeR ∨ s.phase = .homeL) →
    exec .setStepModeHalf s = .next s ∧ exec .setStepModeFull s = .next s) ∧
  decodeWord 0x30000001 = .ok .setStepModeHalf ∧ decodeWord 0x30000002 = .ok .setStepModeFull ∧
  (∀ opd : BitVec 16, opd ≠ 1 → opd ≠ 2 → decodeWord (0x30000000 ||| opd.setWidth 32) = .error .badMode)

/-- R27 and R111 (derived in the spec): SET_ANGLE is the only reader of MODE: with any other MODE, every other instruction
leaves the same state but for MODE, and MODE itself is what the instruction writes without reading it, or stays. -/
def Obligations.ModeReadOnlyBySetAngle : Prop :=
  ∀ (i : Instr) (s : State) (mode : ModeBits), (∀ angle, i ≠ .setAngle angle) →
    ∃ t mode', exec i s = .next t ∧ exec i { s with mode := mode } = .next { t with mode := mode' } ∧
      (mode' = t.mode ∨ t.mode = s.mode ∧ mode' = mode)

/-- R112: when READY = 1, IS_BUSY answers the word 0 or 1 that BUSY is and changes nothing else; it is held otherwise; a
nonzero operand is refused at decode; the answer is 1 exactly in STEPPING. That a held command answers the same state, and
that responses are a list, newest first, is the model's, log 8 and 12. -/
def Obligations.IsBusyAnswersTheFlag : Prop :=
  (∀ s : State, s.phase ≠ .homeR → s.phase ≠ .homeL →
    exec .isBusy s = .next { s with responses := (if s.busy then 1 else 0) :: s.responses }) ∧
  (∀ s : State, (s.phase = .homeR ∨ s.phase = .homeL) → exec .isBusy s = .next s) ∧
  (∀ s : State, BlockInv s → s.phase ≠ .homeR → s.phase ≠ .homeL →
    exec .isBusy s = .next { s with responses := (if s.phase = .stepping then 1 else 0) :: s.responses }) ∧
  decodeWord 0x40000000 = .ok .isBusy ∧
  (∀ opd : BitVec 16, opd ≠ 0 → decodeWord (0x40000000 ||| opd.setWidth 32) = .error .reservedOperand)

/-! ### The step handler -/

/-- R120 (D21): MATCH is always enabled; it sets PEND and changes nothing else. -/
def Obligations.MatchSetsPending : Prop :=
  ∀ s : State, exec .compareMatch s = .next { s with pend := true }

/-- R121 away from the target: an enabled TICK completes; it takes its pending flag, does one STEP, and advances TC by
STEP_SPEED relative to its own value, whatever it is (PEND is D21, the wraps D9 and D22; that PORT_HI then has a value is a
mark, log 2); BUSY, IE and everything else stay. -/
def Obligations.TickStepsAndRearms : Prop :=
  ∀ s : State, s.ie = true → s.pend = true → s.pos ≠ s.tgt →
    exec .tick s = .next { s with
      pend := false
      idx := s.idx + s.dir
      portHi := s.patternAt (s.idx + s.dir)
      portHiHasValue := true
      pos := s.pos + s.dir.signExtend 16
      tc := s.tc + s.stepSpeed }

/-- R123: an enabled TICK at the target completes: no flag is pending, the channel interrupt and BUSY are off, PHASE is
IDLE, and nothing else changes. After it no TICK is taken until a SET_ANGLE sets IE again; MATCH may still set PEND, and
SET_ANGLE clears it. -/
def Obligations.TickStopsAtTarget : Prop :=
  (∀ s : State, s.ie = true → s.pend = true → s.pos = s.tgt →
    exec .tick s = .next { s with pend := false, ie := false, busy := false, phase := .idle }) ∧
  (∀ (s : State) (l : List Drawn), s.ie = false → (∀ x ∈ l, ∀ angle, x.1 ≠ .setAngle angle) → takenTicks l s = 0) ∧
  (∀ s : State, s.ie = false → Leads .compareMatch s fun t => t.pend = true ∧ t.ie = false) ∧
  (∀ (s : State) (angle : Int), s.phase = .idle → Leads (.setAngle angle) s fun t => t.pend = false ∧ t.ie = true)

/-- R127: equality of all 16 bits is the sole stopping condition: an enabled TICK leaves STEPPING exactly when POS and TGT
agree in every bit, whatever their order. -/
def Obligations.EqualityIsTheOnlyStop : Prop :=
  ∀ s : State, s.ie = true → s.pend = true → s.phase = .stepping → s.busy = true →
    Leads .tick s fun t =>
      (t.phase = .idle ↔ ∀ k, k < 16 → s.pos.getLsbD k = s.tgt.getLsbD k) ∧
      (t.busy = false ↔ ∀ k, k < 16 → s.pos.getLsbD k = s.tgt.getLsbD k)

/-- R122 (derived in the spec): while a motion lasts, TC is the armed value plus STEP_SPEED for every TICK taken.
A step that is not enabled answers the same state, log 8. -/
def Obligations.CompareValueAdvances : Prop :=
  ∀ (angle : Int) (s : State) (l : List Drawn), (s.phase = .idle ∨ s.phase = .stepping) →
    (∀ x ∈ l, keepsTrajectory x.1 = true) →
    Leads (.setAngle angle) s fun t => LeadsAll l t fun u =>
      u.busy = true → u.tc = s.draws.tcnt + s.stepSpeed + BitVec.ofNat 16 (takenTicks l t) * s.stepSpeed

/-- R124: reaching target is the only way out of STEPPING by an instruction: a SET_ANGLE stays in it and an INIT is held.
That a held command answers the same state is the model's, log 8; a power cycle is no instruction, log 13. -/
def Obligations.OnlyTargetEndsStepping : Prop :=
  ∀ (i : Instr) (s t : State), BlockInv s → s.phase = .stepping → exec i s = .next t →
    (t.phase ≠ .stepping → i = .tick ∧ s.pos = s.tgt ∧ t.phase = .idle) ∧
    ((∃ angle, i = .setAngle angle) → t.phase = .stepping) ∧
    (i = .init → t = s)

/-- R126: the motion state machine in full, row by row; a step not listed for a phase is not enabled there. That such a
step answers the same state is the model's, log 8, and the record of a refusal log 10. -/
def Obligations.PhaseTransitionTable : Prop :=
  ∀ s : State, BlockInv s →
    (s.phase = .uninit →
      Leads .init s (fun t => t.phase = .homeR) ∧
      Leads .setStepModeHalf s (fun t => t.phase = .uninit) ∧ Leads .setStepModeFull s (fun t => t.phase = .uninit) ∧
      Leads .isBusy s (fun t => t.phase = .uninit) ∧
      (∀ angle, Leads (.setAngle angle) s (fun t =>
        t.phase = .uninit ∧ t.refused = true ∧ t.refusals.head?.map (fun r => r.reason) = some .notHomed)) ∧
      exec .tick s = .next s ∧ exec .scan s = .next s ∧ exec .settleDone s = .next s) ∧
    (s.phase = .homeR →
      (s.settle = false → s.draws.limRn = 1 → Leads .scan s (fun t => t.phase = .homeR ∧ t.settle = true)) ∧
      (s.settle = false → s.draws.limRn = 0 → Leads .scan s (fun t => t.phase = .homeL)) ∧
      exec .tick s = .next s) ∧
    (s.phase = .homeL →
      (s.settle = false → s.draws.limLn = 1 → Leads .scan s (fun t => t.phase = .homeL ∧ t.settle = true)) ∧
      (s.settle = false → s.draws.limLn = 0 → Leads .scan s (fun t => t.phase = .idle)) ∧
      exec .tick s = .next s) ∧
    ((s.phase = .homeR ∨ s.phase = .homeL) →
      (s.settle = true → exec .scan s = .next s ∧
        Leads .settleDone s (fun t => t.phase = s.phase ∧ t.settle = false)) ∧
      (s.settle = false → exec .settleDone s = .next s) ∧
      (∀ i : Instr, i.agent = .host → exec i s = .next s)) ∧
    (s.phase = .idle →
      Leads .init s (fun t => t.phase = .homeR) ∧
      (∀ angle, Leads (.setAngle angle) s (fun t => t.phase = .stepping)) ∧
      Leads .setStepModeHalf s (fun t => t.phase = .idle) ∧ Leads .setStepModeFull s (fun t => t.phase = .idle) ∧
      Leads .isBusy s (fun t => t.phase = .idle) ∧
      exec .tick s = .next s ∧ exec .scan s = .next s ∧ exec .settleDone s = .next s) ∧
    (s.phase = .stepping →
      (s.pend = true → s.pos ≠ s.tgt → Leads .tick s (fun t => t.phase = .stepping)) ∧
      (s.pend = true → s.pos = s.tgt → Leads .tick s (fun t => t.phase = .idle)) ∧
      (s.pend = false → exec .tick s = .next s) ∧
      (∀ angle, Leads (.setAngle angle) s (fun t => t.phase = .stepping)) ∧
      Leads .setStepModeHalf s (fun t => t.phase = .stepping) ∧
      Leads .setStepModeFull s (fun t => t.phase = .stepping) ∧
      Leads .isBusy s (fun t => t.phase = .stepping) ∧
      exec .init s = .next s ∧ exec .scan s = .next s ∧ exec .settleDone s = .next s) ∧
    Leads .compareMatch s (fun t => t.phase = s.phase ∧ t.pend = true)

/-! ### Whole motions -/

/-- R115 (derived in the spec): after a SET_ANGLE and whatever steps follow that set no other target or direction, BUSY
is 1 until exactly `n` TICKs have been taken, the first `n - 1` of which each take one STEP; then POS = TGT. A full-step
motion over an odd difference never ends.
A step that is not enabled answers the same state, log 8. -/
def Obligations.MotionTakesExactlyNTicks : Prop :=
  ∀ (angle : Int) (s : State) (l : List Drawn), (s.phase = .idle ∨ s.phase = .stepping) →
    (s.mode = 1 ∨ s.mode = 2) → (∀ x ∈ l, keepsTrajectory x.1 = true) →
    Leads (.setAngle angle) s fun t => LeadsAll l t fun u =>
      match motionTicks s.mode (t.tgt.toInt - s.pos.toInt) with
      | none => u.busy = true
      | some n =>
        takenTicks l t ≤ n ∧ (u.busy = true ↔ takenTicks l t < n) ∧
        u.pos = BitVec.ofInt 16 (s.pos.toInt + (min (takenTicks l t) (n - 1) : Nat) * t.dir.toInt) ∧
        (takenTicks l t = n → u.pos = t.tgt)

/-- R181 (derived in the spec): in any full-step motion whose position and target differ by an odd number, no steps but
another SET_ANGLE ever clear BUSY, and the position never equals the target.
A step that is not enabled answers the same state, log 8. -/
def Obligations.OddFullStepMotionNeverEnds : Prop :=
  ∀ (s : State) (l : List Drawn), s.phase = .stepping → s.busy = true → (s.dir.toInt = 2 ∨ s.dir.toInt = -2) →
    (s.tgt.toInt - s.pos.toInt) % 2 = 1 → (∀ x ∈ l, ∀ angle, x.1 ≠ .setAngle angle) →
    LeadsAll l s fun u => u.phase = .stepping ∧ u.busy = true ∧ u.pos ≠ u.tgt

/-- The no-overshoot property of the source, with the condition conflict C7 adds: in a half-step motion, or a full-step
motion over an even difference, the position stays between where it started and the target.
A step that is not enabled answers the same state, log 8. -/
def Obligations.MotionNeverOvershoots : Prop :=
  ∀ (angle : Int) (s : State) (l : List Drawn), (s.phase = .idle ∨ s.phase = .stepping) →
    (∀ x ∈ l, keepsTrajectory x.1 = true) →
    Leads (.setAngle angle) s fun t =>
      (s.mode = 1 ∨ s.mode = 2 ∧ (t.tgt.toInt - s.pos.toInt) % 2 = 0) →
      LeadsAll l t fun u =>
        min s.pos.toInt t.tgt.toInt ≤ u.pos.toInt ∧ u.pos.toInt ≤ max s.pos.toInt t.tgt.toInt

/-- Progress (R128, D34): in a weakly fair run in which the host issues nothing more and the power stays on, a motion
that steps by one ends: BUSY returns to 0, with POS at TGT.
A step that is not enabled answers the same state, log 8. -/
def Obligations.HalfMotionEndsUnderFairness : Prop :=
  ∀ (st : Nat → State) (turn : Nat → Turn) (words : Nat → List CommandWord) (n : Nat),
    IsRun st turn words → WeaklyFair st turn →
    (∀ m, n ≤ m → (turn m).mover ≠ .powerOn) → (∀ m, n ≤ m → words m = []) → (st n).commands = [] →
    (st n).phase = .stepping → (st n).ie = true → (st n).busy = true →
    ((st n).dir.toInt = 1 ∨ (st n).dir.toInt = -1) →
    ∃ m, n ≤ m ∧ (st m).busy = false ∧ (st m).phase = .idle ∧ (st m).pos = (st n).tgt

/-! ### Invariants and whole-machine rules -/

/-- The invariants of R43 hold after power-on. -/
def Obligations.InvariantAtReset : Prop := BlockInv State.reset

/-- Every step keeps the invariants of R43 (derived in the spec), from any state that has them and whatever turn comes. -/
def Obligations.InvariantKeptByStep : Prop :=
  ∀ s t : State, BlockInv s → step s = .next t → BlockInv t

/-- "The rules keep each of these in every reachable state" (R43, derived in the spec). -/
def Obligations.InvariantOfReachableStates : Prop :=
  ∀ s : State, Reachable s → BlockInv s

/-- TC has a value whenever the channel interrupt is enabled, so no TICK works on the free value it holds before (R35, G9:
"No rule reads TC before SET_ANGLE writes it"; the mark that it has a value is log 2); every step keeps this. -/
def Obligations.ChannelArmedKeptByStep : Prop :=
  ∀ s t : State, Armed s → step s = .next t → Armed t

/-- The values of R44 after power-on; BUSY and IE are the source's, the others the spec's decisions D12, D26 and D35, TC and
PORT_HI are marked as without value (G9; log 2), and STEP_SPEED is within its bounds (D23). -/
def Obligations.ResetState : Prop :=
  State.reset.phase = .uninit ∧ State.reset.settle = false ∧ State.reset.idx = 0 ∧ State.reset.pos = 0 ∧
  State.reset.tgt = 0 ∧ State.reset.mode = 1 ∧ State.reset.dir = 0 ∧ State.reset.maxs = 0 ∧
  State.reset.busy = false ∧ State.reset.ie = false ∧ State.reset.pend = false ∧ State.reset.ioCfg = false ∧
  State.reset.tcHasValue = false ∧ State.reset.portHiHasValue = false ∧ State.reset.refused = false ∧
  State.reset.stepSpeed = Config.stepSpeed ∧ 1 ≤ State.reset.stepSpeed.toNat ∧
  ∀ k : Fin 8, State.reset.coilTable[k] = Config.coilTable k

/-- Which instruction writes which register: the writers named by R22 to R37 and the table of R41 (the pieces the spec
marks as its own decisions among them; that TC and PORT_HI carry a mark for having a value is log 2, the lists of responses
log 12). -/
def Obligations.WritersOfEachRegister : Prop :=
  ∀ (i : Instr) (s t : State), exec i s = .next t →
    (t.phase ≠ s.phase → i = .init ∨ i = .scan ∨ i = .tick ∨ ∃ a, i = .setAngle a) ∧
    (t.settle ≠ s.settle → (t.settle = true ∧ i = .scan) ∨ (t.settle = false ∧ (i = .settleDone ∨ i = .init))) ∧
    (t.idx ≠ s.idx → i = .scan ∨ i = .tick) ∧
    (t.pos ≠ s.pos → i = .scan ∨ i = .tick) ∧
    (t.tgt ≠ s.tgt → ∃ a, i = .setAngle a) ∧
    (t.mode ≠ s.mode → i = .init ∨ i = .setStepModeHalf ∨ i = .setStepModeFull) ∧
    (t.dir ≠ s.dir → i = .init ∨ i = .scan ∨ ∃ a, i = .setAngle a) ∧
    (t.maxs ≠ s.maxs → i = .scan) ∧
    (t.busy ≠ s.busy → (t.busy = true ∧ ∃ a, i = .setAngle a) ∨ (t.busy = false ∧ i = .tick)) ∧
    (t.ie ≠ s.ie → (t.ie = true ∧ ∃ a, i = .setAngle a) ∨ (t.ie = false ∧ i = .tick)) ∧
    (t.pend ≠ s.pend → (t.pend = true ∧ i = .compareMatch) ∨ (t.pend = false ∧ (i = .tick ∨ ∃ a, i = .setAngle a))) ∧
    (t.ioCfg ≠ s.ioCfg → t.ioCfg = true ∧ i = .init) ∧
    (t.tc ≠ s.tc → i = .tick ∨ ∃ a, i = .setAngle a) ∧
    (t.tcHasValue ≠ s.tcHasValue → t.tcHasValue = true ∧ ∃ a, i = .setAngle a) ∧
    (t.portHi ≠ s.portHi → i = .scan ∨ i = .tick) ∧
    (t.portHiHasValue ≠ s.portHiHasValue → t.portHiHasValue = true ∧ (i = .scan ∨ i = .tick)) ∧
    (t.refused ≠ s.refused → t.refused = true ∧ (∃ a, i = .setAngle a) ∧ s.phase = .uninit) ∧
    (t.responses ≠ s.responses → i = .isBusy) ∧
    t.stepSpeed = s.stepSpeed ∧ t.coilTable = s.coilTable ∧ t.portLo = s.portLo

/-- No step clears REFUSED, not even power-on (R32; D4). -/
def Obligations.RefusedMarkIsSticky : Prop :=
  ∀ s t : State, step s = .next t → s.refused = true → t.refused = true

/-- No step writes the coil table or STEP_SPEED (R31, R50, R59; the values are OPEN, D23, D24), nor port bits 3..0: R51 says
so of the block's writes, that nothing else writes them, power-on turns included, is the model's, log 13 and 14. -/
def Obligations.ConstantsNeverWritten : Prop :=
  ∀ s t : State, step s = .next t →
    t.coilTable = s.coilTable ∧ t.stepSpeed = s.stepSpeed ∧ t.portLo = s.portLo
end

