-- ==== Sys2Proof/Laws/Decode.lean ====
section
/-!
SUPPORT. The fields of a command word, and what the decoder can answer.
-/

namespace Sys2Proof

@[simp] theorem opField_wordOf (op : BitVec 4) (opd : BitVec 16) : opField (wordOf op opd) = op := by
  apply BitVec.eq_of_getLsbD_eq
  intro i hi
  have h16 : ¬ 28 + i < 16 := by omega
  have h28 : ¬ 28 + i - 16 < 12 := by omega
  have h0 : 28 + i - 16 - 12 = i := by omega
  simp only [opField, wordOf, BitVec.getLsbD_extractLsb', BitVec.getLsbD_append, h16, h28, h0, hi, if_false,
    decide_true, Bool.true_and]

@[simp] theorem rsvField_wordOf (op : BitVec 4) (opd : BitVec 16) : rsvField (wordOf op opd) = 0 := by
  apply BitVec.eq_of_getLsbD_eq
  intro i hi
  have h16 : ¬ 16 + i < 16 := by omega
  have h28 : 16 + i - 16 < 12 := by omega
  simp only [rsvField, wordOf, BitVec.getLsbD_extractLsb', BitVec.getLsbD_append, h16, h28, if_false, if_true]
  simp

@[simp] theorem opdField_wordOf (op : BitVec 4) (opd : BitVec 16) : opdField (wordOf op opd) = opd := by
  apply BitVec.eq_of_getLsbD_eq
  intro i hi
  simp only [opdField, wordOf, BitVec.getLsbD_extractLsb', BitVec.getLsbD_append, Nat.zero_add, hi, if_true,
    decide_true, Bool.true_and]

/-- A word whose reserved bits are 0 is made of its other two fields. -/
theorem wordOf_fields {w : CommandWord} (h : rsvField w = 0) : wordOf (opField w) (opdField w) = w := by
  apply BitVec.eq_of_getLsbD_eq
  intro i hi
  simp only [wordOf, BitVec.getLsbD_append, opdField, opField, BitVec.getLsbD_extractLsb']
  by_cases h16 : i < 16
  · simp [h16]
  · by_cases h28 : i - 16 < 12
    · have hb := congrArg (fun v => v.getLsbD (i - 16)) h
      have e : 16 + (i - 16) = i := by omega
      simp [rsvField, h28, e] at hb
      simp [h16, h28, hb]
    · have e : 28 + (i - 16 - 12) = i := by omega
      have h4 : i - 16 - 12 < 4 := by omega
      simp [h16, h28, e, h4]

/-- What a word that decodes is made of (R65). -/
theorem decodeWord_ok_cases {w : CommandWord} {i : Instr} (h : decodeWord w = .ok i) :
    rsvField w = 0 ∧
    ((opField w = 1 ∧ opdField w = 0 ∧ i = .init) ∨
     (opField w = 2 ∧ i = .setAngle (opdField w).toInt) ∨
     (opField w = 3 ∧ opdField w = 1 ∧ i = .setStepModeHalf) ∨
     (opField w = 3 ∧ opdField w = 2 ∧ i = .setStepModeFull) ∨
     (opField w = 4 ∧ opdField w = 0 ∧ i = .isBusy)) := by
  by_cases hr : rsvField w = 0
  · refine ⟨hr, ?_⟩
    by_cases h1 : opField w = 1
    · by_cases hd : opdField w = 0 <;> simp_all [decodeWord, checkReserved, checkNoOperand]
    · by_cases h2 : opField w = 2
      · simp_all [decodeWord, checkReserved]
      · by_cases h3 : opField w = 3
        · by_cases hd1 : opdField w = 1
          · simp_all [decodeWord, checkReserved, decodeMode]
          · by_cases hd2 : opdField w = 2 <;> simp_all [decodeWord, checkReserved, decodeMode]
        · by_cases h4 : opField w = 4
          · by_cases hd : opdField w = 0 <;> simp_all [decodeWord, checkReserved, checkNoOperand]
          · simp_all [decodeWord]
  · exfalso
    simp only [decodeWord, checkReserved, ne_eq, hr, not_false_eq_true, if_true] at h
    repeat' split at h
    all_goals cases h

end Sys2Proof
end

