-- ==== Sys2Proof/Laws/Operands.lean ====
section
/-!
SUPPORT. What the operand computations give, in bit-vector and in integer arithmetic.
-/

namespace Sys2Proof.Machine

theorem wrapS_sint {n : Nat} (v : BitVec n) : wrapS n (sint v) = v := by
  simp [wrapS, sint]

theorem wrapS_neg_sint {n : Nat} (v : BitVec n) : wrapS n (-sint v) = -v := by
  simp [wrapS, sint, BitVec.ofInt_neg]

/-- The index advances by plain 3-bit addition. -/
theorem advanceIndex_eq_add (idx : StepIndex) (dir : Direction) : advanceIndex idx dir = idx + dir := by
  revert idx dir; decide

/-- The index is the true remainder modulo 8 (R81). -/
theorem advanceIndex_toNat (idx : StepIndex) (dir : Direction) :
    ((advanceIndex idx dir).toNat : Int) = (idx.toNat + dir.toInt) % 8 := by
  revert idx dir; decide

/-- The position moves by the sign-extended direction, with 16-bit wrap (R83). -/
theorem advancePosition_eq_add (pos : Position) (dir : Direction) :
    advancePosition pos dir = pos + dir.signExtend 16 := by
  apply BitVec.eq_of_toInt_eq
  have h : (dir.signExtend 16).toInt = dir.toInt := BitVec.toInt_signExtend_of_le (by decide)
  simp [advancePosition, wrapS, sint, BitVec.toInt_add, h]

/-- Timer arithmetic is 16-bit addition (R35). -/
theorem addTicks_eq_add (a b : Ticks) : addTicks a b = a + b := by
  unfold addTicks wrapU uint
  rw [BitVec.ofInt_add, BitVec.ofInt_natCast, BitVec.ofInt_natCast, BitVec.ofNat_toNat, BitVec.ofNat_toNat]
  simp

theorem rem_eq_tmod (a b : Int) : rem a b = a.tmod b := by
  have h := Int.tmod_add_mul_tdiv a b
  unfold rem quot
  omega

theorem foldAngle_eq_tmod (angle : Int) : foldAngle angle = angle.tmod 180 := rem_eq_tmod angle 180

/-- The fold of an angle that needs none. -/
theorem foldAngle_of_lt {angle : Int} (h0 : 0 ≤ angle) (h1 : angle < 180) : foldAngle angle = angle := by
  rw [foldAngle_eq_tmod, Int.tmod_eq_of_lt h0 h1]

theorem foldAngle_neg (angle : Int) : foldAngle (-angle) = -foldAngle angle := by
  simp [foldAngle_eq_tmod, Int.neg_tmod]

/-- The scaled target of a folded angle that is not negative is a floor (R108). -/
theorem scaledTarget_of_nonneg {angle : Int} (maxs : Position) (h : 0 ≤ foldAngle angle) :
    scaledTarget angle maxs = foldAngle angle * maxs.toNat / 180 := by
  unfold scaledTarget quot uint Config.angleMod
  rw [Int.tdiv_eq_ediv_of_nonneg (Int.mul_nonneg h (Int.natCast_nonneg _))]

/-- The direction in 3-bit arithmetic (R109). -/
theorem directionFor_eq (mode : ModeBits) (diff : Int) :
    directionFor mode diff = if diff > 0 then mode.setWidth 3 else -(mode.setWidth 3) := by
  unfold directionFor
  split
  · revert mode; decide
  · revert mode; decide

@[simp] theorem responseWord_eq (busy : Bool) : responseWord busy = if busy then 1 else 0 := by
  cases busy <;> decide

@[simp] theorem isPressed_zero : isPressed 0#1 = true := rfl

@[simp] theorem isPressed_one : isPressed 1#1 = false := rfl

/-- The masked write bit by bit (R51). -/
theorem forceBits_getLsbD (port mask value : PortByte) (i : Nat) :
    (forceBits port mask value).getLsbD i = if mask.getLsbD i then value.getLsbD i else port.getLsbD i := by
  unfold forceBits
  by_cases hi : i < 8
  · cases hm : mask.getLsbD i <;>
      simp [-BitVec.getLsbD_eq_getElem, BitVec.getLsbD_or, BitVec.getLsbD_and, BitVec.getLsbD_not, hi, hm]
  · simp [BitVec.getLsbD_of_ge _ _ (Nat.le_of_not_lt hi)]

end Sys2Proof.Machine
end

