-- ==== Sys2Proof/Laws/State.lean ====
section
/-!
SUPPORT. One lemma for each field of the state under each update of it, so that no proof unfolds a record update.
-/

namespace Sys2Proof.Machine

@[simp] theorem portForce_phase (mask value : PortByte) (s : State) : (portForce mask value s).phase = s.phase := rfl
@[simp] theorem portForce_settle (mask value : PortByte) (s : State) : (portForce mask value s).settle = s.settle := rfl
@[simp] theorem portForce_idx (mask value : PortByte) (s : State) : (portForce mask value s).idx = s.idx := rfl
@[simp] theorem portForce_pos (mask value : PortByte) (s : State) : (portForce mask value s).pos = s.pos := rfl
@[simp] theorem portForce_tgt (mask value : PortByte) (s : State) : (portForce mask value s).tgt = s.tgt := rfl
@[simp] theorem portForce_mode (mask value : PortByte) (s : State) : (portForce mask value s).mode = s.mode := rfl
@[simp] theorem portForce_dir (mask value : PortByte) (s : State) : (portForce mask value s).dir = s.dir := rfl
@[simp] theorem portForce_maxs (mask value : PortByte) (s : State) : (portForce mask value s).maxs = s.maxs := rfl
@[simp] theorem portForce_busy (mask value : PortByte) (s : State) : (portForce mask value s).busy = s.busy := rfl
@[simp] theorem portForce_stepSpeed (mask value : PortByte) (s : State) : (portForce mask value s).stepSpeed = s.stepSpeed := rfl
@[simp] theorem portForce_refused (mask value : PortByte) (s : State) : (portForce mask value s).refused = s.refused := rfl
@[simp] theorem portForce_portHi (mask value : PortByte) (s : State) : (portForce mask value s).portHi = (forceBits s.port mask value).extractLsb' 4 4 := rfl
@[simp] theorem portForce_portHiHasValue (mask value : PortByte) (s : State) : (portForce mask value s).portHiHasValue = (s.portHiHasValue || mask.extractLsb' 4 4 == 0xF) := rfl
@[simp] theorem portForce_portLo (mask value : PortByte) (s : State) : (portForce mask value s).portLo = (forceBits s.port mask value).extractLsb' 0 4 := rfl
@[simp] theorem portForce_ioCfg (mask value : PortByte) (s : State) : (portForce mask value s).ioCfg = s.ioCfg := rfl
@[simp] theorem portForce_tc (mask value : PortByte) (s : State) : (portForce mask value s).tc = s.tc := rfl
@[simp] theorem portForce_tcHasValue (mask value : PortByte) (s : State) : (portForce mask value s).tcHasValue = s.tcHasValue := rfl
@[simp] theorem portForce_ie (mask value : PortByte) (s : State) : (portForce mask value s).ie = s.ie := rfl
@[simp] theorem portForce_pend (mask value : PortByte) (s : State) : (portForce mask value s).pend = s.pend := rfl
@[simp] theorem portForce_coilTable (mask value : PortByte) (s : State) : (portForce mask value s).coilTable = s.coilTable := rfl
@[simp] theorem portForce_commands (mask value : PortByte) (s : State) : (portForce mask value s).commands = s.commands := rfl
@[simp] theorem portForce_responses (mask value : PortByte) (s : State) : (portForce mask value s).responses = s.responses := rfl
@[simp] theorem portForce_refusals (mask value : PortByte) (s : State) : (portForce mask value s).refusals = s.refusals := rfl
@[simp] theorem portForce_draws (mask value : PortByte) (s : State) : (portForce mask value s).draws = s.draws := rfl
@[simp] theorem portForce_schedule (mask value : PortByte) (s : State) : (portForce mask value s).schedule = s.schedule := rfl
@[simp] theorem portForce_powerCycles (mask value : PortByte) (s : State) : (portForce mask value s).powerCycles = s.powerCycles := rfl

@[simp] theorem stepIndex_phase (s : State) : (stepIndex s).phase = s.phase := rfl
@[simp] theorem stepIndex_settle (s : State) : (stepIndex s).settle = s.settle := rfl
@[simp] theorem stepIndex_idx (s : State) : (stepIndex s).idx = advanceIndex s.idx s.dir := rfl
@[simp] theorem stepIndex_pos (s : State) : (stepIndex s).pos = s.pos := rfl
@[simp] theorem stepIndex_tgt (s : State) : (stepIndex s).tgt = s.tgt := rfl
@[simp] theorem stepIndex_mode (s : State) : (stepIndex s).mode = s.mode := rfl
@[simp] theorem stepIndex_dir (s : State) : (stepIndex s).dir = s.dir := rfl
@[simp] theorem stepIndex_maxs (s : State) : (stepIndex s).maxs = s.maxs := rfl
@[simp] theorem stepIndex_busy (s : State) : (stepIndex s).busy = s.busy := rfl
@[simp] theorem stepIndex_stepSpeed (s : State) : (stepIndex s).stepSpeed = s.stepSpeed := rfl
@[simp] theorem stepIndex_refused (s : State) : (stepIndex s).refused = s.refused := rfl
@[simp] theorem stepIndex_portHi (s : State) : (stepIndex s).portHi = s.portHi := rfl
@[simp] theorem stepIndex_portHiHasValue (s : State) : (stepIndex s).portHiHasValue = s.portHiHasValue := rfl
@[simp] theorem stepIndex_portLo (s : State) : (stepIndex s).portLo = s.portLo := rfl
@[simp] theorem stepIndex_ioCfg (s : State) : (stepIndex s).ioCfg = s.ioCfg := rfl
@[simp] theorem stepIndex_tc (s : State) : (stepIndex s).tc = s.tc := rfl
@[simp] theorem stepIndex_tcHasValue (s : State) : (stepIndex s).tcHasValue = s.tcHasValue := rfl
@[simp] theorem stepIndex_ie (s : State) : (stepIndex s).ie = s.ie := rfl
@[simp] theorem stepIndex_pend (s : State) : (stepIndex s).pend = s.pend := rfl
@[simp] theorem stepIndex_coilTable (s : State) : (stepIndex s).coilTable = s.coilTable := rfl
@[simp] theorem stepIndex_commands (s : State) : (stepIndex s).commands = s.commands := rfl
@[simp] theorem stepIndex_responses (s : State) : (stepIndex s).responses = s.responses := rfl
@[simp] theorem stepIndex_refusals (s : State) : (stepIndex s).refusals = s.refusals := rfl
@[simp] theorem stepIndex_draws (s : State) : (stepIndex s).draws = s.draws := rfl
@[simp] theorem stepIndex_schedule (s : State) : (stepIndex s).schedule = s.schedule := rfl
@[simp] theorem stepIndex_powerCycles (s : State) : (stepIndex s).powerCycles = s.powerCycles := rfl

@[simp] theorem stepPosition_phase (s : State) : (stepPosition s).phase = s.phase := rfl
@[simp] theorem stepPosition_settle (s : State) : (stepPosition s).settle = s.settle := rfl
@[simp] theorem stepPosition_idx (s : State) : (stepPosition s).idx = s.idx := rfl
@[simp] theorem stepPosition_pos (s : State) : (stepPosition s).pos = advancePosition s.pos s.dir := rfl
@[simp] theorem stepPosition_tgt (s : State) : (stepPosition s).tgt = s.tgt := rfl
@[simp] theorem stepPosition_mode (s : State) : (stepPosition s).mode = s.mode := rfl
@[simp] theorem stepPosition_dir (s : State) : (stepPosition s).dir = s.dir := rfl
@[simp] theorem stepPosition_maxs (s : State) : (stepPosition s).maxs = s.maxs := rfl
@[simp] theorem stepPosition_busy (s : State) : (stepPosition s).busy = s.busy := rfl
@[simp] theorem stepPosition_stepSpeed (s : State) : (stepPosition s).stepSpeed = s.stepSpeed := rfl
@[simp] theorem stepPosition_refused (s : State) : (stepPosition s).refused = s.refused := rfl
@[simp] theorem stepPosition_portHi (s : State) : (stepPosition s).portHi = s.portHi := rfl
@[simp] theorem stepPosition_portHiHasValue (s : State) : (stepPosition s).portHiHasValue = s.portHiHasValue := rfl
@[simp] theorem stepPosition_portLo (s : State) : (stepPosition s).portLo = s.portLo := rfl
@[simp] theorem stepPosition_ioCfg (s : State) : (stepPosition s).ioCfg = s.ioCfg := rfl
@[simp] theorem stepPosition_tc (s : State) : (stepPosition s).tc = s.tc := rfl
@[simp] theorem stepPosition_tcHasValue (s : State) : (stepPosition s).tcHasValue = s.tcHasValue := rfl
@[simp] theorem stepPosition_ie (s : State) : (stepPosition s).ie = s.ie := rfl
@[simp] theorem stepPosition_pend (s : State) : (stepPosition s).pend = s.pend := rfl
@[simp] theorem stepPosition_coilTable (s : State) : (stepPosition s).coilTable = s.coilTable := rfl
@[simp] theorem stepPosition_commands (s : State) : (stepPosition s).commands = s.commands := rfl
@[simp] theorem stepPosition_responses (s : State) : (stepPosition s).responses = s.responses := rfl
@[simp] theorem stepPosition_refusals (s : State) : (stepPosition s).refusals = s.refusals := rfl
@[simp] theorem stepPosition_draws (s : State) : (stepPosition s).draws = s.draws := rfl
@[simp] theorem stepPosition_schedule (s : State) : (stepPosition s).schedule = s.schedule := rfl
@[simp] theorem stepPosition_powerCycles (s : State) : (stepPosition s).powerCycles = s.powerCycles := rfl

@[simp] theorem armChannelAt_phase (count : Ticks) (s : State) : (armChannelAt count s).phase = s.phase := rfl
@[simp] theorem armChannelAt_settle (count : Ticks) (s : State) : (armChannelAt count s).settle = s.settle := rfl
@[simp] theorem armChannelAt_idx (count : Ticks) (s : State) : (armChannelAt count s).idx = s.idx := rfl
@[simp] theorem armChannelAt_pos (count : Ticks) (s : State) : (armChannelAt count s).pos = s.pos := rfl
@[simp] theorem armChannelAt_tgt (count : Ticks) (s : State) : (armChannelAt count s).tgt = s.tgt := rfl
@[simp] theorem armChannelAt_mode (count : Ticks) (s : State) : (armChannelAt count s).mode = s.mode := rfl
@[simp] theorem armChannelAt_dir (count : Ticks) (s : State) : (armChannelAt count s).dir = s.dir := rfl
@[simp] theorem armChannelAt_maxs (count : Ticks) (s : State) : (armChannelAt count s).maxs = s.maxs := rfl
@[simp] theorem armChannelAt_busy (count : Ticks) (s : State) : (armChannelAt count s).busy = s.busy := rfl
@[simp] theorem armChannelAt_stepSpeed (count : Ticks) (s : State) : (armChannelAt count s).stepSpeed = s.stepSpeed := rfl
@[simp] theorem armChannelAt_refused (count : Ticks) (s : State) : (armChannelAt count s).refused = s.refused := rfl
@[simp] theorem armChannelAt_portHi (count : Ticks) (s : State) : (armChannelAt count s).portHi = s.portHi := rfl
@[simp] theorem armChannelAt_portHiHasValue (count : Ticks) (s : State) : (armChannelAt count s).portHiHasValue = s.portHiHasValue := rfl
@[simp] theorem armChannelAt_portLo (count : Ticks) (s : State) : (armChannelAt count s).portLo = s.portLo := rfl
@[simp] theorem armChannelAt_ioCfg (count : Ticks) (s : State) : (armChannelAt count s).ioCfg = s.ioCfg := rfl
@[simp] theorem armChannelAt_tc (count : Ticks) (s : State) : (armChannelAt count s).tc = count := rfl
@[simp] theorem armChannelAt_tcHasValue (count : Ticks) (s : State) : (armChannelAt count s).tcHasValue = true := rfl
@[simp] theorem armChannelAt_ie (count : Ticks) (s : State) : (armChannelAt count s).ie = s.ie := rfl
@[simp] theorem armChannelAt_pend (count : Ticks) (s : State) : (armChannelAt count s).pend = false := rfl
@[simp] theorem armChannelAt_coilTable (count : Ticks) (s : State) : (armChannelAt count s).coilTable = s.coilTable := rfl
@[simp] theorem armChannelAt_commands (count : Ticks) (s : State) : (armChannelAt count s).commands = s.commands := rfl
@[simp] theorem armChannelAt_responses (count : Ticks) (s : State) : (armChannelAt count s).responses = s.responses := rfl
@[simp] theorem armChannelAt_refusals (count : Ticks) (s : State) : (armChannelAt count s).refusals = s.refusals := rfl
@[simp] theorem armChannelAt_draws (count : Ticks) (s : State) : (armChannelAt count s).draws = s.draws := rfl
@[simp] theorem armChannelAt_schedule (count : Ticks) (s : State) : (armChannelAt count s).schedule = s.schedule := rfl
@[simp] theorem armChannelAt_powerCycles (count : Ticks) (s : State) : (armChannelAt count s).powerCycles = s.powerCycles := rfl

@[simp] theorem advanceChannelCompareBy_phase (offset : Ticks) (s : State) : (advanceChannelCompareBy offset s).phase = s.phase := rfl
@[simp] theorem advanceChannelCompareBy_settle (offset : Ticks) (s : State) : (advanceChannelCompareBy offset s).settle = s.settle := rfl
@[simp] theorem advanceChannelCompareBy_idx (offset : Ticks) (s : State) : (advanceChannelCompareBy offset s).idx = s.idx := rfl
@[simp] theorem advanceChannelCompareBy_pos (offset : Ticks) (s : State) : (advanceChannelCompareBy offset s).pos = s.pos := rfl
@[simp] theorem advanceChannelCompareBy_tgt (offset : Ticks) (s : State) : (advanceChannelCompareBy offset s).tgt = s.tgt := rfl
@[simp] theorem advanceChannelCompareBy_mode (offset : Ticks) (s : State) : (advanceChannelCompareBy offset s).mode = s.mode := rfl
@[simp] theorem advanceChannelCompareBy_dir (offset : Ticks) (s : State) : (advanceChannelCompareBy offset s).dir = s.dir := rfl
@[simp] theorem advanceChannelCompareBy_maxs (offset : Ticks) (s : State) : (advanceChannelCompareBy offset s).maxs = s.maxs := rfl
@[simp] theorem advanceChannelCompareBy_busy (offset : Ticks) (s : State) : (advanceChannelCompareBy offset s).busy = s.busy := rfl
@[simp] theorem advanceChannelCompareBy_stepSpeed (offset : Ticks) (s : State) : (advanceChannelCompareBy offset s).stepSpeed = s.stepSpeed := rfl
@[simp] theorem advanceChannelCompareBy_refused (offset : Ticks) (s : State) : (advanceChannelCompareBy offset s).refused = s.refused := rfl
@[simp] theorem advanceChannelCompareBy_portHi (offset : Ticks) (s : State) : (advanceChannelCompareBy offset s).portHi = s.portHi := rfl
@[simp] theorem advanceChannelCompareBy_portHiHasValue (offset : Ticks) (s : State) : (advanceChannelCompareBy offset s).portHiHasValue = s.portHiHasValue := rfl
@[simp] theorem advanceChannelCompareBy_portLo (offset : Ticks) (s : State) : (advanceChannelCompareBy offset s).portLo = s.portLo := rfl
@[simp] theorem advanceChannelCompareBy_ioCfg (offset : Ticks) (s : State) : (advanceChannelCompareBy offset s).ioCfg = s.ioCfg := rfl
@[simp] theorem advanceChannelCompareBy_tc (offset : Ticks) (s : State) : (advanceChannelCompareBy offset s).tc = addTicks s.tc offset := rfl
@[simp] theorem advanceChannelCompareBy_tcHasValue (offset : Ticks) (s : State) : (advanceChannelCompareBy offset s).tcHasValue = s.tcHasValue := rfl
@[simp] theorem advanceChannelCompareBy_ie (offset : Ticks) (s : State) : (advanceChannelCompareBy offset s).ie = s.ie := rfl
@[simp] theorem advanceChannelCompareBy_pend (offset : Ticks) (s : State) : (advanceChannelCompareBy offset s).pend = s.pend := rfl
@[simp] theorem advanceChannelCompareBy_coilTable (offset : Ticks) (s : State) : (advanceChannelCompareBy offset s).coilTable = s.coilTable := rfl
@[simp] theorem advanceChannelCompareBy_commands (offset : Ticks) (s : State) : (advanceChannelCompareBy offset s).commands = s.commands := rfl
@[simp] theorem advanceChannelCompareBy_responses (offset : Ticks) (s : State) : (advanceChannelCompareBy offset s).responses = s.responses := rfl
@[simp] theorem advanceChannelCompareBy_refusals (offset : Ticks) (s : State) : (advanceChannelCompareBy offset s).refusals = s.refusals := rfl
@[simp] theorem advanceChannelCompareBy_draws (offset : Ticks) (s : State) : (advanceChannelCompareBy offset s).draws = s.draws := rfl
@[simp] theorem advanceChannelCompareBy_schedule (offset : Ticks) (s : State) : (advanceChannelCompareBy offset s).schedule = s.schedule := rfl
@[simp] theorem advanceChannelCompareBy_powerCycles (offset : Ticks) (s : State) : (advanceChannelCompareBy offset s).powerCycles = s.powerCycles := rfl

@[simp] theorem readChannelCompareRegister_phase (s : State) : (readChannelCompareRegister s).phase = s.phase := rfl
@[simp] theorem readChannelCompareRegister_settle (s : State) : (readChannelCompareRegister s).settle = s.settle := rfl
@[simp] theorem readChannelCompareRegister_idx (s : State) : (readChannelCompareRegister s).idx = s.idx := rfl
@[simp] theorem readChannelCompareRegister_pos (s : State) : (readChannelCompareRegister s).pos = s.pos := rfl
@[simp] theorem readChannelCompareRegister_tgt (s : State) : (readChannelCompareRegister s).tgt = s.tgt := rfl
@[simp] theorem readChannelCompareRegister_mode (s : State) : (readChannelCompareRegister s).mode = s.mode := rfl
@[simp] theorem readChannelCompareRegister_dir (s : State) : (readChannelCompareRegister s).dir = s.dir := rfl
@[simp] theorem readChannelCompareRegister_maxs (s : State) : (readChannelCompareRegister s).maxs = s.maxs := rfl
@[simp] theorem readChannelCompareRegister_busy (s : State) : (readChannelCompareRegister s).busy = s.busy := rfl
@[simp] theorem readChannelCompareRegister_stepSpeed (s : State) : (readChannelCompareRegister s).stepSpeed = s.stepSpeed := rfl
@[simp] theorem readChannelCompareRegister_refused (s : State) : (readChannelCompareRegister s).refused = s.refused := rfl
@[simp] theorem readChannelCompareRegister_portHi (s : State) : (readChannelCompareRegister s).portHi = s.portHi := rfl
@[simp] theorem readChannelCompareRegister_portHiHasValue (s : State) : (readChannelCompareRegister s).portHiHasValue = s.portHiHasValue := rfl
@[simp] theorem readChannelCompareRegister_portLo (s : State) : (readChannelCompareRegister s).portLo = s.portLo := rfl
@[simp] theorem readChannelCompareRegister_ioCfg (s : State) : (readChannelCompareRegister s).ioCfg = s.ioCfg := rfl
@[simp] theorem readChannelCompareRegister_tc (s : State) : (readChannelCompareRegister s).tc = s.tc := rfl
@[simp] theorem readChannelCompareRegister_tcHasValue (s : State) : (readChannelCompareRegister s).tcHasValue = s.tcHasValue := rfl
@[simp] theorem readChannelCompareRegister_ie (s : State) : (readChannelCompareRegister s).ie = s.ie := rfl
@[simp] theorem readChannelCompareRegister_pend (s : State) : (readChannelCompareRegister s).pend = false := rfl
@[simp] theorem readChannelCompareRegister_coilTable (s : State) : (readChannelCompareRegister s).coilTable = s.coilTable := rfl
@[simp] theorem readChannelCompareRegister_commands (s : State) : (readChannelCompareRegister s).commands = s.commands := rfl
@[simp] theorem readChannelCompareRegister_responses (s : State) : (readChannelCompareRegister s).responses = s.responses := rfl
@[simp] theorem readChannelCompareRegister_refusals (s : State) : (readChannelCompareRegister s).refusals = s.refusals := rfl
@[simp] theorem readChannelCompareRegister_draws (s : State) : (readChannelCompareRegister s).draws = s.draws := rfl
@[simp] theorem readChannelCompareRegister_schedule (s : State) : (readChannelCompareRegister s).schedule = s.schedule := rfl
@[simp] theorem readChannelCompareRegister_powerCycles (s : State) : (readChannelCompareRegister s).powerCycles = s.powerCycles := rfl

@[simp] theorem enableChannelInterrupt_phase (s : State) : (enableChannelInterrupt s).phase = s.phase := rfl
@[simp] theorem enableChannelInterrupt_settle (s : State) : (enableChannelInterrupt s).settle = s.settle := rfl
@[simp] theorem enableChannelInterrupt_idx (s : State) : (enableChannelInterrupt s).idx = s.idx := rfl
@[simp] theorem enableChannelInterrupt_pos (s : State) : (enableChannelInterrupt s).pos = s.pos := rfl
@[simp] theorem enableChannelInterrupt_tgt (s : State) : (enableChannelInterrupt s).tgt = s.tgt := rfl
@[simp] theorem enableChannelInterrupt_mode (s : State) : (enableChannelInterrupt s).mode = s.mode := rfl
@[simp] theorem enableChannelInterrupt_dir (s : State) : (enableChannelInterrupt s).dir = s.dir := rfl
@[simp] theorem enableChannelInterrupt_maxs (s : State) : (enableChannelInterrupt s).maxs = s.maxs := rfl
@[simp] theorem enableChannelInterrupt_busy (s : State) : (enableChannelInterrupt s).busy = s.busy := rfl
@[simp] theorem enableChannelInterrupt_stepSpeed (s : State) : (enableChannelInterrupt s).stepSpeed = s.stepSpeed := rfl
@[simp] theorem enableChannelInterrupt_refused (s : State) : (enableChannelInterrupt s).refused = s.refused := rfl
@[simp] theorem enableChannelInterrupt_portHi (s : State) : (enableChannelInterrupt s).portHi = s.portHi := rfl
@[simp] theorem enableChannelInterrupt_portHiHasValue (s : State) : (enableChannelInterrupt s).portHiHasValue = s.portHiHasValue := rfl
@[simp] theorem enableChannelInterrupt_portLo (s : State) : (enableChannelInterrupt s).portLo = s.portLo := rfl
@[simp] theorem enableChannelInterrupt_ioCfg (s : State) : (enableChannelInterrupt s).ioCfg = s.ioCfg := rfl
@[simp] theorem enableChannelInterrupt_tc (s : State) : (enableChannelInterrupt s).tc = s.tc := rfl
@[simp] theorem enableChannelInterrupt_tcHasValue (s : State) : (enableChannelInterrupt s).tcHasValue = s.tcHasValue := rfl
@[simp] theorem enableChannelInterrupt_ie (s : State) : (enableChannelInterrupt s).ie = true := rfl
@[simp] theorem enableChannelInterrupt_pend (s : State) : (enableChannelInterrupt s).pend = s.pend := rfl
@[simp] theorem enableChannelInterrupt_coilTable (s : State) : (enableChannelInterrupt s).coilTable = s.coilTable := rfl
@[simp] theorem enableChannelInterrupt_commands (s : State) : (enableChannelInterrupt s).commands = s.commands := rfl
@[simp] theorem enableChannelInterrupt_responses (s : State) : (enableChannelInterrupt s).responses = s.responses := rfl
@[simp] theorem enableChannelInterrupt_refusals (s : State) : (enableChannelInterrupt s).refusals = s.refusals := rfl
@[simp] theorem enableChannelInterrupt_draws (s : State) : (enableChannelInterrupt s).draws = s.draws := rfl
@[simp] theorem enableChannelInterrupt_schedule (s : State) : (enableChannelInterrupt s).schedule = s.schedule := rfl
@[simp] theorem enableChannelInterrupt_powerCycles (s : State) : (enableChannelInterrupt s).powerCycles = s.powerCycles := rfl

@[simp] theorem disableChannelInterrupt_phase (s : State) : (disableChannelInterrupt s).phase = s.phase := rfl
@[simp] theorem disableChannelInterrupt_settle (s : State) : (disableChannelInterrupt s).settle = s.settle := rfl
@[simp] theorem disableChannelInterrupt_idx (s : State) : (disableChannelInterrupt s).idx = s.idx := rfl
@[simp] theorem disableChannelInterrupt_pos (s : State) : (disableChannelInterrupt s).pos = s.pos := rfl
@[simp] theorem disableChannelInterrupt_tgt (s : State) : (disableChannelInterrupt s).tgt = s.tgt := rfl
@[simp] theorem disableChannelInterrupt_mode (s : State) : (disableChannelInterrupt s).mode = s.mode := rfl
@[simp] theorem disableChannelInterrupt_dir (s : State) : (disableChannelInterrupt s).dir = s.dir := rfl
@[simp] theorem disableChannelInterrupt_maxs (s : State) : (disableChannelInterrupt s).maxs = s.maxs := rfl
@[simp] theorem disableChannelInterrupt_busy (s : State) : (disableChannelInterrupt s).busy = s.busy := rfl
@[simp] theorem disableChannelInterrupt_stepSpeed (s : State) : (disableChannelInterrupt s).stepSpeed = s.stepSpeed := rfl
@[simp] theorem disableChannelInterrupt_refused (s : State) : (disableChannelInterrupt s).refused = s.refused := rfl
@[simp] theorem disableChannelInterrupt_portHi (s : State) : (disableChannelInterrupt s).portHi = s.portHi := rfl
@[simp] theorem disableChannelInterrupt_portHiHasValue (s : State) : (disableChannelInterrupt s).portHiHasValue = s.portHiHasValue := rfl
@[simp] theorem disableChannelInterrupt_portLo (s : State) : (disableChannelInterrupt s).portLo = s.portLo := rfl
@[simp] theorem disableChannelInterrupt_ioCfg (s : State) : (disableChannelInterrupt s).ioCfg = s.ioCfg := rfl
@[simp] theorem disableChannelInterrupt_tc (s : State) : (disableChannelInterrupt s).tc = s.tc := rfl
@[simp] theorem disableChannelInterrupt_tcHasValue (s : State) : (disableChannelInterrupt s).tcHasValue = s.tcHasValue := rfl
@[simp] theorem disableChannelInterrupt_ie (s : State) : (disableChannelInterrupt s).ie = false := rfl
@[simp] theorem disableChannelInterrupt_pend (s : State) : (disableChannelInterrupt s).pend = s.pend := rfl
@[simp] theorem disableChannelInterrupt_coilTable (s : State) : (disableChannelInterrupt s).coilTable = s.coilTable := rfl
@[simp] theorem disableChannelInterrupt_commands (s : State) : (disableChannelInterrupt s).commands = s.commands := rfl
@[simp] theorem disableChannelInterrupt_responses (s : State) : (disableChannelInterrupt s).responses = s.responses := rfl
@[simp] theorem disableChannelInterrupt_refusals (s : State) : (disableChannelInterrupt s).refusals = s.refusals := rfl
@[simp] theorem disableChannelInterrupt_draws (s : State) : (disableChannelInterrupt s).draws = s.draws := rfl
@[simp] theorem disableChannelInterrupt_schedule (s : State) : (disableChannelInterrupt s).schedule = s.schedule := rfl
@[simp] theorem disableChannelInterrupt_powerCycles (s : State) : (disableChannelInterrupt s).powerCycles = s.powerCycles := rfl

@[simp] theorem configureIo_phase (s : State) : (configureIo s).phase = s.phase := rfl
@[simp] theorem configureIo_settle (s : State) : (configureIo s).settle = s.settle := rfl
@[simp] theorem configureIo_idx (s : State) : (configureIo s).idx = s.idx := rfl
@[simp] theorem configureIo_pos (s : State) : (configureIo s).pos = s.pos := rfl
@[simp] theorem configureIo_tgt (s : State) : (configureIo s).tgt = s.tgt := rfl
@[simp] theorem configureIo_mode (s : State) : (configureIo s).mode = s.mode := rfl
@[simp] theorem configureIo_dir (s : State) : (configureIo s).dir = s.dir := rfl
@[simp] theorem configureIo_maxs (s : State) : (configureIo s).maxs = s.maxs := rfl
@[simp] theorem configureIo_busy (s : State) : (configureIo s).busy = s.busy := rfl
@[simp] theorem configureIo_stepSpeed (s : State) : (configureIo s).stepSpeed = s.stepSpeed := rfl
@[simp] theorem configureIo_refused (s : State) : (configureIo s).refused = s.refused := rfl
@[simp] theorem configureIo_portHi (s : State) : (configureIo s).portHi = s.portHi := rfl
@[simp] theorem configureIo_portHiHasValue (s : State) : (configureIo s).portHiHasValue = s.portHiHasValue := rfl
@[simp] theorem configureIo_portLo (s : State) : (configureIo s).portLo = s.portLo := rfl
@[simp] theorem configureIo_ioCfg (s : State) : (configureIo s).ioCfg = true := rfl
@[simp] theorem configureIo_tc (s : State) : (configureIo s).tc = s.tc := rfl
@[simp] theorem configureIo_tcHasValue (s : State) : (configureIo s).tcHasValue = s.tcHasValue := rfl
@[simp] theorem configureIo_ie (s : State) : (configureIo s).ie = s.ie := rfl
@[simp] theorem configureIo_pend (s : State) : (configureIo s).pend = s.pend := rfl
@[simp] theorem configureIo_coilTable (s : State) : (configureIo s).coilTable = s.coilTable := rfl
@[simp] theorem configureIo_commands (s : State) : (configureIo s).commands = s.commands := rfl
@[simp] theorem configureIo_responses (s : State) : (configureIo s).responses = s.responses := rfl
@[simp] theorem configureIo_refusals (s : State) : (configureIo s).refusals = s.refusals := rfl
@[simp] theorem configureIo_draws (s : State) : (configureIo s).draws = s.draws := rfl
@[simp] theorem configureIo_schedule (s : State) : (configureIo s).schedule = s.schedule := rfl
@[simp] theorem configureIo_powerCycles (s : State) : (configureIo s).powerCycles = s.powerCycles := rfl

@[simp] theorem respond_phase (w : CommandWord) (s : State) : (respond w s).phase = s.phase := rfl
@[simp] theorem respond_settle (w : CommandWord) (s : State) : (respond w s).settle = s.settle := rfl
@[simp] theorem respond_idx (w : CommandWord) (s : State) : (respond w s).idx = s.idx := rfl
@[simp] theorem respond_pos (w : CommandWord) (s : State) : (respond w s).pos = s.pos := rfl
@[simp] theorem respond_tgt (w : CommandWord) (s : State) : (respond w s).tgt = s.tgt := rfl
@[simp] theorem respond_mode (w : CommandWord) (s : State) : (respond w s).mode = s.mode := rfl
@[simp] theorem respond_dir (w : CommandWord) (s : State) : (respond w s).dir = s.dir := rfl
@[simp] theorem respond_maxs (w : CommandWord) (s : State) : (respond w s).maxs = s.maxs := rfl
@[simp] theorem respond_busy (w : CommandWord) (s : State) : (respond w s).busy = s.busy := rfl
@[simp] theorem respond_stepSpeed (w : CommandWord) (s : State) : (respond w s).stepSpeed = s.stepSpeed := rfl
@[simp] theorem respond_refused (w : CommandWord) (s : State) : (respond w s).refused = s.refused := rfl
@[simp] theorem respond_portHi (w : CommandWord) (s : State) : (respond w s).portHi = s.portHi := rfl
@[simp] theorem respond_portHiHasValue (w : CommandWord) (s : State) : (respond w s).portHiHasValue = s.portHiHasValue := rfl
@[simp] theorem respond_portLo (w : CommandWord) (s : State) : (respond w s).portLo = s.portLo := rfl
@[simp] theorem respond_ioCfg (w : CommandWord) (s : State) : (respond w s).ioCfg = s.ioCfg := rfl
@[simp] theorem respond_tc (w : CommandWord) (s : State) : (respond w s).tc = s.tc := rfl
@[simp] theorem respond_tcHasValue (w : CommandWord) (s : State) : (respond w s).tcHasValue = s.tcHasValue := rfl
@[simp] theorem respond_ie (w : CommandWord) (s : State) : (respond w s).ie = s.ie := rfl
@[simp] theorem respond_pend (w : CommandWord) (s : State) : (respond w s).pend = s.pend := rfl
@[simp] theorem respond_coilTable (w : CommandWord) (s : State) : (respond w s).coilTable = s.coilTable := rfl
@[simp] theorem respond_commands (w : CommandWord) (s : State) : (respond w s).commands = s.commands := rfl
@[simp] theorem respond_responses (w : CommandWord) (s : State) : (respond w s).responses = w :: s.responses := rfl
@[simp] theorem respond_refusals (w : CommandWord) (s : State) : (respond w s).refusals = s.refusals := rfl
@[simp] theorem respond_draws (w : CommandWord) (s : State) : (respond w s).draws = s.draws := rfl
@[simp] theorem respond_schedule (w : CommandWord) (s : State) : (respond w s).schedule = s.schedule := rfl
@[simp] theorem respond_powerCycles (w : CommandWord) (s : State) : (respond w s).powerCycles = s.powerCycles := rfl

@[simp] theorem refuse_phase (reason : RefuseReason) (word : CommandWord) (phase : Option Phase) (s : State) : (refuse reason word phase s).phase = s.phase := rfl
@[simp] theorem refuse_settle (reason : RefuseReason) (word : CommandWord) (phase : Option Phase) (s : State) : (refuse reason word phase s).settle = s.settle := rfl
@[simp] theorem refuse_idx (reason : RefuseReason) (word : CommandWord) (phase : Option Phase) (s : State) : (refuse reason word phase s).idx = s.idx := rfl
@[simp] theorem refuse_pos (reason : RefuseReason) (word : CommandWord) (phase : Option Phase) (s : State) : (refuse reason word phase s).pos = s.pos := rfl
@[simp] theorem refuse_tgt (reason : RefuseReason) (word : CommandWord) (phase : Option Phase) (s : State) : (refuse reason word phase s).tgt = s.tgt := rfl
@[simp] theorem refuse_mode (reason : RefuseReason) (word : CommandWord) (phase : Option Phase) (s : State) : (refuse reason word phase s).mode = s.mode := rfl
@[simp] theorem refuse_dir (reason : RefuseReason) (word : CommandWord) (phase : Option Phase) (s : State) : (refuse reason word phase s).dir = s.dir := rfl
@[simp] theorem refuse_maxs (reason : RefuseReason) (word : CommandWord) (phase : Option Phase) (s : State) : (refuse reason word phase s).maxs = s.maxs := rfl
@[simp] theorem refuse_busy (reason : RefuseReason) (word : CommandWord) (phase : Option Phase) (s : State) : (refuse reason word phase s).busy = s.busy := rfl
@[simp] theorem refuse_stepSpeed (reason : RefuseReason) (word : CommandWord) (phase : Option Phase) (s : State) : (refuse reason word phase s).stepSpeed = s.stepSpeed := rfl
@[simp] theorem refuse_refused (reason : RefuseReason) (word : CommandWord) (phase : Option Phase) (s : State) : (refuse reason word phase s).refused = true := rfl
@[simp] theorem refuse_portHi (reason : RefuseReason) (word : CommandWord) (phase : Option Phase) (s : State) : (refuse reason word phase s).portHi = s.portHi := rfl
@[simp] theorem refuse_portHiHasValue (reason : RefuseReason) (word : CommandWord) (phase : Option Phase) (s : State) : (refuse reason word phase s).portHiHasValue = s.portHiHasValue := rfl
@[simp] theorem refuse_portLo (reason : RefuseReason) (word : CommandWord) (phase : Option Phase) (s : State) : (refuse reason word phase s).portLo = s.portLo := rfl
@[simp] theorem refuse_ioCfg (reason : RefuseReason) (word : CommandWord) (phase : Option Phase) (s : State) : (refuse reason word phase s).ioCfg = s.ioCfg := rfl
@[simp] theorem refuse_tc (reason : RefuseReason) (word : CommandWord) (phase : Option Phase) (s : State) : (refuse reason word phase s).tc = s.tc := rfl
@[simp] theorem refuse_tcHasValue (reason : RefuseReason) (word : CommandWord) (phase : Option Phase) (s : State) : (refuse reason word phase s).tcHasValue = s.tcHasValue := rfl
@[simp] theorem refuse_ie (reason : RefuseReason) (word : CommandWord) (phase : Option Phase) (s : State) : (refuse reason word phase s).ie = s.ie := rfl
@[simp] theorem refuse_pend (reason : RefuseReason) (word : CommandWord) (phase : Option Phase) (s : State) : (refuse reason word phase s).pend = s.pend := rfl
@[simp] theorem refuse_coilTable (reason : RefuseReason) (word : CommandWord) (phase : Option Phase) (s : State) : (refuse reason word phase s).coilTable = s.coilTable := rfl
@[simp] theorem refuse_commands (reason : RefuseReason) (word : CommandWord) (phase : Option Phase) (s : State) : (refuse reason word phase s).commands = s.commands := rfl
@[simp] theorem refuse_responses (reason : RefuseReason) (word : CommandWord) (phase : Option Phase) (s : State) : (refuse reason word phase s).responses = s.responses := rfl
@[simp] theorem refuse_refusals (reason : RefuseReason) (word : CommandWord) (phase : Option Phase) (s : State) : (refuse reason word phase s).refusals = { reason := reason, word := word, phase := phase } :: s.refusals := rfl
@[simp] theorem refuse_draws (reason : RefuseReason) (word : CommandWord) (phase : Option Phase) (s : State) : (refuse reason word phase s).draws = s.draws := rfl
@[simp] theorem refuse_schedule (reason : RefuseReason) (word : CommandWord) (phase : Option Phase) (s : State) : (refuse reason word phase s).schedule = s.schedule := rfl
@[simp] theorem refuse_powerCycles (reason : RefuseReason) (word : CommandWord) (phase : Option Phase) (s : State) : (refuse reason word phase s).powerCycles = s.powerCycles := rfl

@[simp] theorem dropCommand_phase (s : State) : (dropCommand s).phase = s.phase := rfl
@[simp] theorem dropCommand_settle (s : State) : (dropCommand s).settle = s.settle := rfl
@[simp] theorem dropCommand_idx (s : State) : (dropCommand s).idx = s.idx := rfl
@[simp] theorem dropCommand_pos (s : State) : (dropCommand s).pos = s.pos := rfl
@[simp] theorem dropCommand_tgt (s : State) : (dropCommand s).tgt = s.tgt := rfl
@[simp] theorem dropCommand_mode (s : State) : (dropCommand s).mode = s.mode := rfl
@[simp] theorem dropCommand_dir (s : State) : (dropCommand s).dir = s.dir := rfl
@[simp] theorem dropCommand_maxs (s : State) : (dropCommand s).maxs = s.maxs := rfl
@[simp] theorem dropCommand_busy (s : State) : (dropCommand s).busy = s.busy := rfl
@[simp] theorem dropCommand_stepSpeed (s : State) : (dropCommand s).stepSpeed = s.stepSpeed := rfl
@[simp] theorem dropCommand_refused (s : State) : (dropCommand s).refused = s.refused := rfl
@[simp] theorem dropCommand_portHi (s : State) : (dropCommand s).portHi = s.portHi := rfl
@[simp] theorem dropCommand_portHiHasValue (s : State) : (dropCommand s).portHiHasValue = s.portHiHasValue := rfl
@[simp] theorem dropCommand_portLo (s : State) : (dropCommand s).portLo = s.portLo := rfl
@[simp] theorem dropCommand_ioCfg (s : State) : (dropCommand s).ioCfg = s.ioCfg := rfl
@[simp] theorem dropCommand_tc (s : State) : (dropCommand s).tc = s.tc := rfl
@[simp] theorem dropCommand_tcHasValue (s : State) : (dropCommand s).tcHasValue = s.tcHasValue := rfl
@[simp] theorem dropCommand_ie (s : State) : (dropCommand s).ie = s.ie := rfl
@[simp] theorem dropCommand_pend (s : State) : (dropCommand s).pend = s.pend := rfl
@[simp] theorem dropCommand_coilTable (s : State) : (dropCommand s).coilTable = s.coilTable := rfl
@[simp] theorem dropCommand_commands (s : State) : (dropCommand s).commands = s.commands.tail := rfl
@[simp] theorem dropCommand_responses (s : State) : (dropCommand s).responses = s.responses := rfl
@[simp] theorem dropCommand_refusals (s : State) : (dropCommand s).refusals = s.refusals := rfl
@[simp] theorem dropCommand_draws (s : State) : (dropCommand s).draws = s.draws := rfl
@[simp] theorem dropCommand_schedule (s : State) : (dropCommand s).schedule = s.schedule := rfl
@[simp] theorem dropCommand_powerCycles (s : State) : (dropCommand s).powerCycles = s.powerCycles := rfl

@[simp] theorem takeTurn_phase (t : Turn) (later : List Turn) (s : State) : (takeTurn t later s).phase = s.phase := rfl
@[simp] theorem takeTurn_settle (t : Turn) (later : List Turn) (s : State) : (takeTurn t later s).settle = s.settle := rfl
@[simp] theorem takeTurn_idx (t : Turn) (later : List Turn) (s : State) : (takeTurn t later s).idx = s.idx := rfl
@[simp] theorem takeTurn_pos (t : Turn) (later : List Turn) (s : State) : (takeTurn t later s).pos = s.pos := rfl
@[simp] theorem takeTurn_tgt (t : Turn) (later : List Turn) (s : State) : (takeTurn t later s).tgt = s.tgt := rfl
@[simp] theorem takeTurn_mode (t : Turn) (later : List Turn) (s : State) : (takeTurn t later s).mode = s.mode := rfl
@[simp] theorem takeTurn_dir (t : Turn) (later : List Turn) (s : State) : (takeTurn t later s).dir = s.dir := rfl
@[simp] theorem takeTurn_maxs (t : Turn) (later : List Turn) (s : State) : (takeTurn t later s).maxs = s.maxs := rfl
@[simp] theorem takeTurn_busy (t : Turn) (later : List Turn) (s : State) : (takeTurn t later s).busy = s.busy := rfl
@[simp] theorem takeTurn_stepSpeed (t : Turn) (later : List Turn) (s : State) : (takeTurn t later s).stepSpeed = s.stepSpeed := rfl
@[simp] theorem takeTurn_refused (t : Turn) (later : List Turn) (s : State) : (takeTurn t later s).refused = s.refused := rfl
@[simp] theorem takeTurn_portHi (t : Turn) (later : List Turn) (s : State) : (takeTurn t later s).portHi = s.portHi := rfl
@[simp] theorem takeTurn_portHiHasValue (t : Turn) (later : List Turn) (s : State) : (takeTurn t later s).portHiHasValue = s.portHiHasValue := rfl
@[simp] theorem takeTurn_portLo (t : Turn) (later : List Turn) (s : State) : (takeTurn t later s).portLo = s.portLo := rfl
@[simp] theorem takeTurn_ioCfg (t : Turn) (later : List Turn) (s : State) : (takeTurn t later s).ioCfg = s.ioCfg := rfl
@[simp] theorem takeTurn_tc (t : Turn) (later : List Turn) (s : State) : (takeTurn t later s).tc = s.tc := rfl
@[simp] theorem takeTurn_tcHasValue (t : Turn) (later : List Turn) (s : State) : (takeTurn t later s).tcHasValue = s.tcHasValue := rfl
@[simp] theorem takeTurn_ie (t : Turn) (later : List Turn) (s : State) : (takeTurn t later s).ie = s.ie := rfl
@[simp] theorem takeTurn_pend (t : Turn) (later : List Turn) (s : State) : (takeTurn t later s).pend = s.pend := rfl
@[simp] theorem takeTurn_coilTable (t : Turn) (later : List Turn) (s : State) : (takeTurn t later s).coilTable = s.coilTable := rfl
@[simp] theorem takeTurn_commands (t : Turn) (later : List Turn) (s : State) : (takeTurn t later s).commands = s.commands := rfl
@[simp] theorem takeTurn_responses (t : Turn) (later : List Turn) (s : State) : (takeTurn t later s).responses = s.responses := rfl
@[simp] theorem takeTurn_refusals (t : Turn) (later : List Turn) (s : State) : (takeTurn t later s).refusals = s.refusals := rfl
@[simp] theorem takeTurn_draws (t : Turn) (later : List Turn) (s : State) : (takeTurn t later s).draws = t.draws := rfl
@[simp] theorem takeTurn_schedule (t : Turn) (later : List Turn) (s : State) : (takeTurn t later s).schedule = later := rfl
@[simp] theorem takeTurn_powerCycles (t : Turn) (later : List Turn) (s : State) : (takeTurn t later s).powerCycles = s.powerCycles := rfl

@[simp] theorem consumePending_phase (s : State) : (consumePending s).phase = s.phase := rfl
@[simp] theorem consumePending_settle (s : State) : (consumePending s).settle = s.settle := rfl
@[simp] theorem consumePending_idx (s : State) : (consumePending s).idx = s.idx := rfl
@[simp] theorem consumePending_pos (s : State) : (consumePending s).pos = s.pos := rfl
@[simp] theorem consumePending_tgt (s : State) : (consumePending s).tgt = s.tgt := rfl
@[simp] theorem consumePending_mode (s : State) : (consumePending s).mode = s.mode := rfl
@[simp] theorem consumePending_dir (s : State) : (consumePending s).dir = s.dir := rfl
@[simp] theorem consumePending_maxs (s : State) : (consumePending s).maxs = s.maxs := rfl
@[simp] theorem consumePending_busy (s : State) : (consumePending s).busy = s.busy := rfl
@[simp] theorem consumePending_stepSpeed (s : State) : (consumePending s).stepSpeed = s.stepSpeed := rfl
@[simp] theorem consumePending_refused (s : State) : (consumePending s).refused = s.refused := rfl
@[simp] theorem consumePending_portHi (s : State) : (consumePending s).portHi = s.portHi := rfl
@[simp] theorem consumePending_portHiHasValue (s : State) : (consumePending s).portHiHasValue = s.portHiHasValue := rfl
@[simp] theorem consumePending_portLo (s : State) : (consumePending s).portLo = s.portLo := rfl
@[simp] theorem consumePending_ioCfg (s : State) : (consumePending s).ioCfg = s.ioCfg := rfl
@[simp] theorem consumePending_tc (s : State) : (consumePending s).tc = s.tc := rfl
@[simp] theorem consumePending_tcHasValue (s : State) : (consumePending s).tcHasValue = s.tcHasValue := rfl
@[simp] theorem consumePending_ie (s : State) : (consumePending s).ie = s.ie := rfl
@[simp] theorem consumePending_pend (s : State) : (consumePending s).pend = false := rfl
@[simp] theorem consumePending_coilTable (s : State) : (consumePending s).coilTable = s.coilTable := rfl
@[simp] theorem consumePending_commands (s : State) : (consumePending s).commands = s.commands := rfl
@[simp] theorem consumePending_responses (s : State) : (consumePending s).responses = s.responses := rfl
@[simp] theorem consumePending_refusals (s : State) : (consumePending s).refusals = s.refusals := rfl
@[simp] theorem consumePending_draws (s : State) : (consumePending s).draws = s.draws := rfl
@[simp] theorem consumePending_schedule (s : State) : (consumePending s).schedule = s.schedule := rfl
@[simp] theorem consumePending_powerCycles (s : State) : (consumePending s).powerCycles = s.powerCycles := rfl

@[simp] theorem powerOn_phase (s : State) : (powerOn s).phase = .uninit := rfl
@[simp] theorem powerOn_settle (s : State) : (powerOn s).settle = false := rfl
@[simp] theorem powerOn_idx (s : State) : (powerOn s).idx = 0 := rfl
@[simp] theorem powerOn_pos (s : State) : (powerOn s).pos = 0 := rfl
@[simp] theorem powerOn_tgt (s : State) : (powerOn s).tgt = 0 := rfl
@[simp] theorem powerOn_mode (s : State) : (powerOn s).mode = Config.half := rfl
@[simp] theorem powerOn_dir (s : State) : (powerOn s).dir = 0 := rfl
@[simp] theorem powerOn_maxs (s : State) : (powerOn s).maxs = 0 := rfl
@[simp] theorem powerOn_busy (s : State) : (powerOn s).busy = false := rfl
@[simp] theorem powerOn_stepSpeed (s : State) : (powerOn s).stepSpeed = s.stepSpeed := rfl
@[simp] theorem powerOn_refused (s : State) : (powerOn s).refused = s.refused := rfl
@[simp] theorem powerOn_portHi (s : State) : (powerOn s).portHi = Config.portHiAtPowerOn (s.powerCycles + 1) := rfl
@[simp] theorem powerOn_portHiHasValue (s : State) : (powerOn s).portHiHasValue = false := rfl
@[simp] theorem powerOn_portLo (s : State) : (powerOn s).portLo = s.portLo := rfl
@[simp] theorem powerOn_ioCfg (s : State) : (powerOn s).ioCfg = false := rfl
@[simp] theorem powerOn_tc (s : State) : (powerOn s).tc = Config.tcAtPowerOn (s.powerCycles + 1) := rfl
@[simp] theorem powerOn_tcHasValue (s : State) : (powerOn s).tcHasValue = false := rfl
@[simp] theorem powerOn_ie (s : State) : (powerOn s).ie = false := rfl
@[simp] theorem powerOn_pend (s : State) : (powerOn s).pend = false := rfl
@[simp] theorem powerOn_coilTable (s : State) : (powerOn s).coilTable = s.coilTable := rfl
@[simp] theorem powerOn_commands (s : State) : (powerOn s).commands = s.commands := rfl
@[simp] theorem powerOn_responses (s : State) : (powerOn s).responses = s.responses := rfl
@[simp] theorem powerOn_refusals (s : State) : (powerOn s).refusals = s.refusals := rfl
@[simp] theorem powerOn_draws (s : State) : (powerOn s).draws = s.draws := rfl
@[simp] theorem powerOn_schedule (s : State) : (powerOn s).schedule = s.schedule := rfl
@[simp] theorem powerOn_powerCycles (s : State) : (powerOn s).powerCycles = s.powerCycles + 1 := rfl

@[simp] theorem offer_phase (turns : List Turn) (words : List CommandWord) (s : State) : (offer turns words s).phase = s.phase := rfl
@[simp] theorem offer_settle (turns : List Turn) (words : List CommandWord) (s : State) : (offer turns words s).settle = s.settle := rfl
@[simp] theorem offer_idx (turns : List Turn) (words : List CommandWord) (s : State) : (offer turns words s).idx = s.idx := rfl
@[simp] theorem offer_pos (turns : List Turn) (words : List CommandWord) (s : State) : (offer turns words s).pos = s.pos := rfl
@[simp] theorem offer_tgt (turns : List Turn) (words : List CommandWord) (s : State) : (offer turns words s).tgt = s.tgt := rfl
@[simp] theorem offer_mode (turns : List Turn) (words : List CommandWord) (s : State) : (offer turns words s).mode = s.mode := rfl
@[simp] theorem offer_dir (turns : List Turn) (words : List CommandWord) (s : State) : (offer turns words s).dir = s.dir := rfl
@[simp] theorem offer_maxs (turns : List Turn) (words : List CommandWord) (s : State) : (offer turns words s).maxs = s.maxs := rfl
@[simp] theorem offer_busy (turns : List Turn) (words : List CommandWord) (s : State) : (offer turns words s).busy = s.busy := rfl
@[simp] theorem offer_stepSpeed (turns : List Turn) (words : List CommandWord) (s : State) : (offer turns words s).stepSpeed = s.stepSpeed := rfl
@[simp] theorem offer_refused (turns : List Turn) (words : List CommandWord) (s : State) : (offer turns words s).refused = s.refused := rfl
@[simp] theorem offer_portHi (turns : List Turn) (words : List CommandWord) (s : State) : (offer turns words s).portHi = s.portHi := rfl
@[simp] theorem offer_portHiHasValue (turns : List Turn) (words : List CommandWord) (s : State) : (offer turns words s).portHiHasValue = s.portHiHasValue := rfl
@[simp] theorem offer_portLo (turns : List Turn) (words : List CommandWord) (s : State) : (offer turns words s).portLo = s.portLo := rfl
@[simp] theorem offer_ioCfg (turns : List Turn) (words : List CommandWord) (s : State) : (offer turns words s).ioCfg = s.ioCfg := rfl
@[simp] theorem offer_tc (turns : List Turn) (words : List CommandWord) (s : State) : (offer turns words s).tc = s.tc := rfl
@[simp] theorem offer_tcHasValue (turns : List Turn) (words : List CommandWord) (s : State) : (offer turns words s).tcHasValue = s.tcHasValue := rfl
@[simp] theorem offer_ie (turns : List Turn) (words : List CommandWord) (s : State) : (offer turns words s).ie = s.ie := rfl
@[simp] theorem offer_pend (turns : List Turn) (words : List CommandWord) (s : State) : (offer turns words s).pend = s.pend := rfl
@[simp] theorem offer_coilTable (turns : List Turn) (words : List CommandWord) (s : State) : (offer turns words s).coilTable = s.coilTable := rfl
@[simp] theorem offer_commands (turns : List Turn) (words : List CommandWord) (s : State) : (offer turns words s).commands = s.commands ++ words := rfl
@[simp] theorem offer_responses (turns : List Turn) (words : List CommandWord) (s : State) : (offer turns words s).responses = s.responses := rfl
@[simp] theorem offer_refusals (turns : List Turn) (words : List CommandWord) (s : State) : (offer turns words s).refusals = s.refusals := rfl
@[simp] theorem offer_draws (turns : List Turn) (words : List CommandWord) (s : State) : (offer turns words s).draws = s.draws := rfl
@[simp] theorem offer_schedule (turns : List Turn) (words : List CommandWord) (s : State) : (offer turns words s).schedule = s.schedule ++ turns := rfl
@[simp] theorem offer_powerCycles (turns : List Turn) (words : List CommandWord) (s : State) : (offer turns words s).powerCycles = s.powerCycles := rfl

end Sys2Proof.Machine
end

