-- ==== Sys2Proof/Laws/Ops.lean ====
section
/-!
SUPPORT. One lemma for each shared operation that says all it does; proofs cite it and do not unfold the operation.
-/

namespace Sys2Proof.Machine

@[simp] theorem held_eq (s : State) : held s = .next s := rfl

/-- A write with the block's one mask replaces the high nibble and keeps the low one (R51). -/
theorem forceBits_coil (hi lo : BitVec 4) (p : Pattern) :
    forceBits (hi ++ lo) Config.coilMask (alignPattern p) = p ++ lo := by
  apply BitVec.eq_of_getLsbD_eq
  intro i hi'
  rw [forceBits_getLsbD]
  simp only [Config.coilMask, alignPattern, BitVec.getLsbD_append]
  interval_cases i <;> simp

/-- What the block's one port write does (R51, R52). -/
theorem portForce_coil (p : Pattern) (s : State) :
    portForce Config.coilMask (alignPattern p) s = { s with portHi := p, portHiHasValue := true } := by
  have hm : (Config.coilMask.extractLsb' 4 4 == 0xF) = true := by decide
  unfold portForce State.port
  rw [forceBits_coil, BitVec.extractLsb'_append_eq_left, BitVec.extractLsb'_append_eq_right, hm, Bool.or_true]

theorem applyPattern_eq (s : State) :
    applyPattern s = { s with portHi := s.patternAt s.idx, portHiHasValue := true } :=
  portForce_coil _ s

/-- All that STEP does (R80). -/
theorem stepCoil_eq (s : State) :
    stepCoil s =
      { s with
        idx := s.idx + s.dir
        portHi := s.patternAt (s.idx + s.dir)
        portHiHasValue := true
        pos := s.pos + s.dir.signExtend 16 } := by
  unfold stepCoil
  rw [applyPattern_eq]
  simp only [stepPosition, stepIndex, advancePosition_eq_add, advanceIndex_eq_add]
  rfl

/-- An update that leaves the coil table alone leaves every pattern alone. -/
theorem patternAt_congr {s t : State} (h : t.coilTable = s.coilTable) (i : StepIndex) :
    t.patternAt i = s.patternAt i := by
  simp [State.patternAt, h]

theorem ready_eq_true_iff (s : State) : s.ready = true ↔ s.phase ≠ .homeR ∧ s.phase ≠ .homeL := by
  simp [State.ready, State.homing]

theorem homing_eq_true_iff (s : State) : s.homing = true ↔ s.phase = .homeR ∨ s.phase = .homeL := by
  simp [State.homing]

theorem initEnabled_eq_true_iff (s : State) : s.initEnabled = true ↔ s.phase = .uninit ∨ s.phase = .idle := by
  simp [State.initEnabled]

theorem tickEnabled_eq_true_iff (s : State) : s.tickEnabled = true ↔ s.ie = true ∧ s.pend = true := by
  simp [State.tickEnabled]

theorem scanEnabled_eq_true_iff (s : State) :
    s.scanEnabled = true ↔ (s.phase = .homeR ∨ s.phase = .homeL) ∧ s.settle = false := by
  simp [State.scanEnabled, State.homing]

theorem atTarget_eq_true_iff (s : State) : s.atTarget = true ↔ s.pos = s.tgt := by
  simp [State.atTarget]

end Sys2Proof.Machine
end

