-- ==== Sys2Proof/Laws/Exec.lean ====
section
/-!
SUPPORT. What an instruction and a fetch can do, said once: every later proof splits on these cases.
-/

namespace Sys2Proof.Machine

/-- INIT runs or is held. -/
theorem execInit_cases {s t : State} (h : execInit s = .next t) :
    (s.initEnabled = true ∧ t = startHoming s) ∨ (s.initEnabled = false ∧ t = s) := by
  unfold execInit at h
  split at h
  · exact .inl ⟨‹_›, (Host.Outcome.next.inj h).symm⟩
  · exact .inr ⟨Bool.eq_false_of_not_eq_true ‹_›, (Host.Outcome.next.inj h).symm⟩

/-- SET_ANGLE is held, refused, or starts a motion. -/
theorem execSetAngle_cases {angle : Int} {s t : State} (h : execSetAngle angle s = .next t) :
    (s.ready = false ∧ t = s) ∨
    (s.phase = .uninit ∧ t = refuse .notHomed (setAngleWord angle) (some .uninit) s) ∨
    (s.ready = true ∧ s.phase ≠ .uninit ∧ t = startMotion (aim angle s)) := by
  unfold execSetAngle at h
  split at h
  · split at h
    · refine .inr (.inl ⟨‹_›, ?_⟩)
      rw [‹s.phase = .uninit›] at h
      exact (Host.Outcome.next.inj h).symm
    · exact .inr (.inr ⟨‹_›, ‹_›, (Host.Outcome.next.inj h).symm⟩)
  · exact .inl ⟨Bool.eq_false_of_not_eq_true ‹_›, (Host.Outcome.next.inj h).symm⟩

/-- SET_STEP_MODE writes MODE or is held. -/
theorem setMode_cases {mode : ModeBits} {s t : State} (h : setMode mode s = .next t) :
    (s.ready = true ∧ t = { s with mode := mode }) ∨ (s.ready = false ∧ t = s) := by
  unfold setMode at h
  split at h
  · exact .inl ⟨‹_›, (Host.Outcome.next.inj h).symm⟩
  · exact .inr ⟨Bool.eq_false_of_not_eq_true ‹_›, (Host.Outcome.next.inj h).symm⟩

/-- IS_BUSY responds or is held. -/
theorem execIsBusy_cases {s t : State} (h : execIsBusy s = .next t) :
    (s.ready = true ∧ t = respond (responseWord s.busy) s) ∨ (s.ready = false ∧ t = s) := by
  unfold execIsBusy at h
  split at h
  · exact .inl ⟨‹_›, (Host.Outcome.next.inj h).symm⟩
  · exact .inr ⟨Bool.eq_false_of_not_eq_true ‹_›, (Host.Outcome.next.inj h).symm⟩

/-- TICK is held, stops at the target, or steps. -/
theorem execTick_cases {s t : State} (h : execTick s = .next t) :
    (s.tickEnabled = false ∧ t = s) ∨
    (s.tickEnabled = true ∧ s.pos = s.tgt ∧ t = tickStop (consumePending s)) ∨
    (s.tickEnabled = true ∧ s.pos ≠ s.tgt ∧ t = tickStep (consumePending s)) := by
  unfold execTick at h
  split at h
  · have h' := (Host.Outcome.next.inj h).symm
    by_cases hp : s.pos = s.tgt
    · refine .inr (.inl ⟨‹_›, hp, ?_⟩)
      simpa [State.atTarget, hp] using h'
    · refine .inr (.inr ⟨‹_›, hp, ?_⟩)
      simpa [State.atTarget, hp] using h'
  · exact .inl ⟨Bool.eq_false_of_not_eq_true ‹_›, (Host.Outcome.next.inj h).symm⟩

/-- SCAN is held, finds a switch pressed, or steps. -/
theorem execScan_cases {s t : State} (h : execScan s = .next t) :
    (s.scanEnabled = false ∧ t = s) ∨
    (s.scanEnabled = true ∧ s.phase = .homeR ∧ isPressed s.draws.limRn = true ∧ t = reachRight s) ∨
    (s.scanEnabled = true ∧ s.phase = .homeR ∧ isPressed s.draws.limRn = false ∧ t = homingStep s) ∨
    (s.scanEnabled = true ∧ s.phase = .homeL ∧ isPressed s.draws.limLn = true ∧ t = reachLeft s) ∨
    (s.scanEnabled = true ∧ s.phase = .homeL ∧ isPressed s.draws.limLn = false ∧ t = homingStep s) := by
  unfold execScan at h
  split at h
  · rename_i he
    have h' := (Host.Outcome.next.inj h).symm
    have hp := (scanEnabled_eq_true_iff s).1 he
    unfold scanOnce at h'
    rcases hp.1 with hR | hL
    · cases hl : isPressed s.draws.limRn <;> simp_all
    · cases hl : isPressed s.draws.limLn <;> simp_all
  · exact .inl ⟨Bool.eq_false_of_not_eq_true ‹_›, (Host.Outcome.next.inj h).symm⟩

/-- SETTLE_DONE ends the delay or is held. -/
theorem execSettleDone_cases {s t : State} (h : execSettleDone s = .next t) :
    (s.settle = true ∧ t = { s with settle := false }) ∨ (s.settle = false ∧ t = s) := by
  unfold execSettleDone at h
  split at h
  · exact .inl ⟨‹_›, (Host.Outcome.next.inj h).symm⟩
  · exact .inr ⟨Bool.eq_false_of_not_eq_true ‹_›, (Host.Outcome.next.inj h).symm⟩

/-- What a fetch can present: nothing to run (no turn, no word, a word refused or held, no such event, power-on), or an
instruction that decodes. -/
theorem fetch_cases (s : State) :
    (s.schedule = [] ∧ fetch s = .quiet s) ∨
    ∃ t later, s.schedule = t :: later ∧
      ((t.mover = .powerOn ∧ fetch s = .quiet (powerOn (takeTurn t later s))) ∨
       (∃ e, t.mover = .event e ∧ decodeEvent e = none ∧ fetch s = .quiet (takeTurn t later s)) ∨
       (∃ e i, t.mover = .event e ∧ decodeEvent e = some i ∧ fetch s = .run i (takeTurn t later s)) ∨
       (t.mover = .host ∧ s.commands = [] ∧ fetch s = .quiet (takeTurn t later s)) ∨
       (∃ w ws r, t.mover = .host ∧ s.commands = w :: ws ∧ decodeWord w = .error r ∧ s.ready = false ∧
          fetch s = .quiet (takeTurn t later s)) ∨
       (∃ w ws r, t.mover = .host ∧ s.commands = w :: ws ∧ decodeWord w = .error r ∧ s.ready = true ∧
          fetch s = .quiet (refuse r w none (dropCommand (takeTurn t later s)))) ∨
       (∃ w ws i, t.mover = .host ∧ s.commands = w :: ws ∧ decodeWord w = .ok i ∧ enabled i s = true ∧
          fetch s = .run i (dropCommand (takeTurn t later s))) ∨
       (∃ w ws i, t.mover = .host ∧ s.commands = w :: ws ∧ decodeWord w = .ok i ∧ enabled i s = false ∧
          fetch s = .run i (takeTurn t later s))) := by
  cases hs : s.schedule with
  | nil => exact .inl ⟨rfl, by simp [fetch, hs]⟩
  | cons t later =>
    have hen : ∀ i, enabled i (takeTurn t later s) = enabled i s := by intro i; cases i <;> rfl
    have hr : (takeTurn t later s).ready = s.ready := rfl
    refine .inr ⟨t, later, rfl, ?_⟩
    cases hm : t.mover with
    | powerOn => exact .inl ⟨rfl, by simp [fetch, hs, fetchMover, hm]⟩
    | event e =>
      cases hd : decodeEvent e with
      | none => exact .inr (.inl ⟨e, rfl, hd, by simp [fetch, hs, fetchMover, hm, fetchEvent, hd]⟩)
      | some i => exact .inr (.inr (.inl ⟨e, i, rfl, hd, by simp [fetch, hs, fetchMover, hm, fetchEvent, hd]⟩))
    | host =>
      cases hc : s.commands with
      | nil => exact .inr (.inr (.inr (.inl ⟨rfl, rfl, by simp [fetch, hs, fetchMover, hm, hc]⟩)))
      | cons w ws =>
        have hf : fetch s = fetchWord w (takeTurn t later s) := by simp [fetch, hs, fetchMover, hm, hc]
        cases hd : decodeWord w with
        | error r =>
          cases hy : s.ready with
          | false =>
            exact .inr (.inr (.inr (.inr (.inl ⟨w, ws, r, rfl, rfl, hd, rfl, by simp [hf, fetchWord, hd, hr, hy]⟩))))
          | true =>
            exact .inr (.inr (.inr (.inr (.inr (.inl
              ⟨w, ws, r, rfl, rfl, hd, rfl, by simp [hf, fetchWord, hd, hr, hy]⟩)))))
        | ok i =>
          cases hy : enabled i s with
          | true =>
            exact .inr (.inr (.inr (.inr (.inr (.inr (.inl
              ⟨w, ws, i, rfl, rfl, hd, hy, by simp [hf, fetchWord, hd, hen, hy]⟩))))))
          | false =>
            exact .inr (.inr (.inr (.inr (.inr (.inr (.inr
              ⟨w, ws, i, rfl, rfl, hd, hy, by simp [hf, fetchWord, hd, hen, hy]⟩))))))

end Sys2Proof.Machine
end

