-- ==== Sys2Proof/Laws/PerInstr.lean ====
section
/-!
SUPPORT. Statements made for every instruction, one lemma per constructor. RowEncoding: an instruction's encoding matches
its row of the opcode table (30_encoding.md rules R63 and R64).
-/

namespace Sys2Proof.Laws.RowEncoding

/-- The encoding of a well-formed instruction has the row's fixed bits. -/
def Statement (i : Instr) : Prop := i.WellFormed → i.row.accepts (encode i) = true

theorem init : Statement .init := fun _ => by decide

theorem setAngle (angle : Int) : Statement (.setAngle angle) := fun _ => by
  have h : ∀ v : BitVec 16, (wordOf 0x2 v &&& 0xFFFF0000) = 0x20000000 := by
    intro v
    apply BitVec.eq_of_getLsbD_eq
    intro i hi
    simp only [wordOf, BitVec.getLsbD_and, BitVec.getLsbD_append]
    interval_cases i <;> simp
  simp only [Instr.row, encode, Row.accepts, setAngleWord, h, beq_self_eq_true]

theorem setStepModeHalf : Statement .setStepModeHalf := fun _ => by decide

theorem setStepModeFull : Statement .setStepModeFull := fun _ => by decide

theorem isBusy : Statement .isBusy := fun _ => by decide

theorem compareMatch : Statement .compareMatch := fun _ => by decide

theorem tick : Statement .tick := fun _ => by decide

theorem scan : Statement .scan := fun _ => by decide

theorem settleDone : Statement .settleDone := fun _ => by decide

end Sys2Proof.Laws.RowEncoding
end

