-- ==== Sys2Proof/Tests/Slice0.lean ====
section
/-!
SUPPORT. The author's own tests: the smoke test of WellFormed, words written out field by field from 30_encoding.md rule
R61 and their decoding, at most two vectors of 95_test_vectors.md for each instruction, and for every obligation with
hypotheses a named witness that meets them all.
-/

namespace Sys2Proof.Tests

open Sys2Proof.Machine

/-! ### Helpers -/

/-- A coil table of this file's own, its entries all different: the real one is OPEN (D24). -/
def table : Vector Pattern 8 := #v[0x1, 0x3, 0x2, 0x6, 0x4, 0xC, 0x8, 0x9]

/-- The power-on state with that table and the step speed the vectors fix, 0x0200. -/
def off : State := { State.reset with coilTable := table, stepSpeed := 0x0200 }

/-- IDLE after a homing: at an index, a position and a travel range. -/
def idleAt (idx : StepIndex) (pos maxs : Position) : State :=
  { off with phase := .idle, ioCfg := true, idx := idx, pos := pos, maxs := maxs, dir := 1,
             portHi := off.patternAt idx, portHiHasValue := true }

/-- STEPPING from a position to a target, armed. -/
def moving (idx : StepIndex) (pos tgt : Position) (dir : Direction) (tc : Ticks) : State :=
  { idleAt idx pos 200 with
    phase := .stepping, tgt := tgt, dir := dir, tc := tc, tcHasValue := true, busy := true, ie := true }

/-- The first homing phase, with a drawn level of the right switch. -/
def homingR (idx : StepIndex) (pos : Position) (level : Level) : State :=
  { idleAt idx pos 0 with phase := .homeR, dir := -1, draws := { limRn := level, limLn := 1, tcnt := 0 } }

/-- The second homing phase, with a drawn level of the left switch. -/
def homingL (idx : StepIndex) (pos : Position) (level : Level) : State :=
  { idleAt idx pos 0 with phase := .homeL, draws := { limRn := 1, limLn := level, tcnt := 0 } }

/-- Both switches not pressed, and a timer count. -/
def unpressed (tcnt : Ticks) : Draws := { limRn := 1, limLn := 1, tcnt := tcnt }

/-- HOST's turn, with words on the command port. -/
def hostTurn (words : List CommandWord) (s : State) : State :=
  { s with schedule := [{ mover := .host, draws := unpressed 0 }], commands := words }

/-- Another agent's turn. -/
def eventTurn (e : EventCode) (s : State) : State := { s with schedule := [{ mover := .event e, draws := unpressed 0 }] }

/-- What a part of the state is after a step that completes. -/
def after {α : Type} (r : Result) (f : State → α) : Option α :=
  match r with
  | .next t => some (f t)
  | .fault _ => none
  | .refused _ => none

/-- The step completes and changes this part of the state. -/
def changes {α : Type} [DecidableEq α] (i : Instr) (s : State) (f : State → α) : Bool :=
  match exec i s with
  | .next t => decide (f t ≠ f s)
  | .fault _ => false
  | .refused _ => false

/-! ### WellFormed -/

/-- R66: the operand of SET_ANGLE has 16 bits, read as signed. -/
theorem test_wellFormed_refuses_wide_angles :
    (Instr.setAngle 32768).wellFormed = false ∧ (Instr.setAngle (-32769)).wellFormed = false := by decide

theorem test_wellFormed_accepts_boundary_angles :
    (Instr.setAngle 32767).wellFormed = true ∧ (Instr.setAngle (-32768)).wellFormed = true := by decide

theorem test_wellFormed_accepts_the_other_rows :
    [Instr.init, .setStepModeHalf, .setStepModeFull, .isBusy, .compareMatch, .tick, .scan, .settleDone].all
      Instr.wellFormed = true := by decide

/-! ### Decoding: `OP` (31..28), `RSV` (27..16) and `OPD` (15..0) written out from R61 and R63; the event codes of R64 -/

theorem test_decode_init :
    decodeWord (0b0001#4 ++ 0b000000000000#12 ++ 0b0000000000000000#16) = .ok .init := by decide

theorem test_decode_setAngle_90 :
    decodeWord (0b0010#4 ++ 0b000000000000#12 ++ 0b0000000001011010#16) = .ok (.setAngle 90) := by decide

theorem test_decode_setAngle_minus_90 :
    decodeWord (0b0010#4 ++ 0b000000000000#12 ++ 0b1111111110100110#16) = .ok (.setAngle (-90)) := by decide

theorem test_decode_setStepModeHalf :
    decodeWord (0b0011#4 ++ 0b000000000000#12 ++ 0b0000000000000001#16) = .ok .setStepModeHalf := by decide

theorem test_decode_setStepModeFull :
    decodeWord (0b0011#4 ++ 0b000000000000#12 ++ 0b0000000000000010#16) = .ok .setStepModeFull := by decide

theorem test_decode_isBusy :
    decodeWord (0b0100#4 ++ 0b000000000000#12 ++ 0b0000000000000000#16) = .ok .isBusy := by decide

theorem test_decode_events :
    [0b0001#4, 0b0010#4, 0b0011#4, 0b0100#4].map decodeEvent =
      [some .compareMatch, some .tick, some .scan, some .settleDone] := by decide

/-- R64: the codes 0x0 and 0x5 to 0xF name no step. -/
theorem test_decode_no_event :
    [0x0, 0x5, 0x6, 0x7, 0x8, 0x9, 0xA, 0xB, 0xC, 0xD, 0xE, 0xF].map decodeEvent = List.replicate 12 none := by decide

/-- The order of the checks (R65): reserved bits before the operand, the operation code before both. -/
theorem test_decode_refusals :
    [0x3001000F, 0x1FFF0001, 0x50010001, 0x40000001, 0x30000000].map decodeWord =
      [.error .reservedBits, .error .reservedBits, .error .reservedOpcode, .error .reservedOperand,
       .error .badMode] := by decide

theorem test_decodeTableWord :
    decodeTableWord 32 0x2000FFA6 = some (.setAngle (-90)) ∧ decodeTableWord 8 0x2 = some .tick ∧
    decodeTableWord 8 0x12 = none ∧ decodeTableWord 32 0x10000001 = none := by decide

/-- A placed word is what the very next step runs, also right after reset. -/
theorem test_withFetchWord_runs_first :
    after (step (State.reset.withFetchWord 32 0x10000000)) State.phase = some .homeR ∧
    after (step (State.reset.withFetchWord 8 0x1)) State.pend = some true := by decide

/-! ### Vectors of 95_test_vectors.md -/

/-- INIT from IDLE with MODE = FULL, POS = 50, IDX = 5, MAXS = 163. -/
theorem test_init_from_idle :
    after (exec .init { idleAt 5 50 163 with mode := 2 })
      (fun t => (t.phase, t.mode, t.dir, t.pos, t.idx, t.maxs)) = some (.homeR, 1, -1, 50, 5, 163) := by decide

theorem test_init_held_in_stepping : after (exec .init (moving 2 99 100 1 0)) State.phase = some .stepping := by decide

/-- SCAN in HOME_R, not pressed, IDX = 0, POS = 0. -/
theorem test_scan_steps :
    after (exec .scan (homingR 0 0 1)) (fun t => (t.idx, t.pos, t.portHi, t.settle)) =
      some (7, -1, 0x9, true) := by decide

/-- SCAN in HOME_R, pressed, POS = -37. -/
theorem test_scan_finds_home :
    after (exec .scan (homingR 3 (-37) 0)) (fun t => (t.pos, t.dir, t.phase, t.settle)) =
      some (0, 1, .homeL, false) := by decide

theorem test_settleDone :
    after (exec .settleDone { homingR 7 (-1) 1 with settle := true }) (fun t => (t.settle, t.phase)) =
      some (false, .homeR) := by decide

/-- V2: `SET_ANGLE 90` with MAXS = 200, POS = 0 and tcnt = 0x1000. -/
theorem test_setAngle_arms :
    after (exec (.setAngle 90) { idleAt 6 0 200 with pend := true, draws := unpressed 0x1000 })
      (fun t => ((t.tgt, t.dir, t.tc), (t.tcHasValue, t.pend, t.phase))) =
      some ((100, 1, 0x1200), (true, false, .stepping)) := by decide

/-- `179, 65535 -> -366`, and the exact difference of D10 from POS = -32768. -/
theorem test_setAngle_wraps_and_compares_exactly :
    after (exec (.setAngle 179) (idleAt 0 0 65535)) State.tgt = some (-366) ∧
    after (exec (.setAngle 90) (idleAt 0 (-32768) 65535)) (fun t => (t.tgt, t.dir)) = some (32767, 1) := by decide

/-- Not retroactive: DIR stays +2. -/
theorem test_setStepModeHalf :
    after (exec .setStepModeHalf { moving 6 6 3 2 0 with mode := 2 }) (fun t => (t.mode, t.dir)) =
      some (1, 2) := by decide

theorem test_setStepModeFull_in_uninit : after (exec .setStepModeFull off) State.mode = some 2 := by decide

theorem test_isBusy :
    after (exec .isBusy off) State.responses = some [0x00000000] ∧
    after (exec .isBusy (moving 2 99 100 1 0)) State.responses = some [0x00000001] := by decide

/-- The events do not count. -/
theorem test_match_pends :
    after (exec .compareMatch (idleAt 0 0 0)) State.pend = some true ∧
    after (exec .compareMatch { idleAt 0 0 0 with pend := true }) State.pend = some true := by decide

/-- POS = 99, TGT = 100, DIR = +1, IDX = 2, TC = 0xFF00. -/
theorem test_tick_steps :
    after (exec .tick { moving 2 99 100 1 0xFF00 with pend := true })
      (fun t => ((t.idx, t.pos, t.portHi), (t.tc, t.pend, t.busy))) =
      some ((3, 100, 0x6), (0x0100, false, true)) := by decide

/-- POS = TGT = 100, TC = 0x0100. -/
theorem test_tick_stops :
    after (exec .tick { moving 3 100 100 1 0x0100 with pend := true })
      (fun t => (t.pend, t.ie, t.busy, t.phase, t.tc)) = some (false, false, false, .idle, 0x0100) := by decide

/-- The STEP table's row `3, -2, -32768`. -/
theorem test_stepCoil_wraps :
    let t := stepCoil { idleAt 3 (-32768) 0 with dir := -2 }
    (t.idx, t.pos, t.portHi) = (1, 32766, 0x3) := by decide

/-- "P = 0x5A with p = 0b1100 gives 0xCA, and P = 0xFF with p = 0b0000 gives 0x0F." -/
theorem test_forceBits : forceBits 0x5A 0xF0 0xC0 = 0xCA ∧ forceBits 0xFF 0xF0 0x00 = 0x0F := by decide

/-! ### States of each phase that meet the invariants of R43 -/

theorem witness_blockInv_off : BlockInv off where
  busyIffStepping := by decide
  ieIffStepping := by decide
  configured := by decide
  settling := by decide
  modeLegal := by decide
  dirLegal := by decide
  homingDir := by decide
  portShowsIndex := nofun

theorem witness_blockInv_idle : BlockInv (idleAt 5 4 200) where
  busyIffStepping := by decide
  ieIffStepping := by decide
  configured := by decide
  settling := by decide
  modeLegal := by decide
  dirLegal := by decide
  homingDir := by decide
  portShowsIndex := fun _ => rfl

theorem witness_blockInv_moving : BlockInv (moving 2 99 100 1 0xFF00) where
  busyIffStepping := by decide
  ieIffStepping := by decide
  configured := by decide
  settling := by decide
  modeLegal := by decide
  dirLegal := by decide
  homingDir := by decide
  portShowsIndex := fun _ => rfl

theorem witness_blockInv_homingR : BlockInv (homingR 0 0 1) where
  busyIffStepping := by decide
  ieIffStepping := by decide
  configured := by decide
  settling := by decide
  modeLegal := by decide
  dirLegal := by decide
  homingDir := by decide
  portShowsIndex := fun _ => rfl

theorem witness_blockInv_homingL : BlockInv (homingL 5 162 0) where
  busyIffStepping := by decide
  ieIffStepping := by decide
  configured := by decide
  settling := by decide
  modeLegal := by decide
  dirLegal := by decide
  homingDir := by decide
  portShowsIndex := fun _ => rfl

/-! ### Witnesses of the encoding and step statements -/

theorem witness_DecodeOfEncode : (Instr.setAngle (-32768)).WellFormed ∧ Instr.tick.WellFormed := by decide

theorem witness_EncodeOfDecode :
    decode (.word 0x20008000) = .ok (.setAngle (-32768)) ∧ decode (.event 0x4) = .ok .settleDone := by decide

theorem witness_WordDecodesIffItMatchesARow : decodeWord 0x2000FFFF = .ok (.setAngle (-1)) := by decide

/-- A word for each reason, at the ends of the ranges of the fields. -/
theorem witness_RefusalReasonsInOrder :
    decodeWord 0x0FFFFFFF = .error .reservedOpcode ∧ decodeWord 0x50000000 = .error .reservedOpcode ∧
    decodeWord 0x10010000 = .error .reservedBits ∧ decodeWord 0x4FFFFFFF = .error .reservedBits ∧
    decodeWord 0x1000FFFF = .error .reservedOperand ∧ decodeWord 0x40000001 = .error .reservedOperand ∧
    decodeWord 0x30000003 = .error .badMode := by decide

theorem witness_EventTurnRunsItsStep :
    (eventTurn 0x2 off).schedule = { mover := .event 0x2, draws := unpressed 0 } :: [] ∧
    decode (.event 0x2) = .ok .tick := by decide

theorem witness_CommandTurnRunsTheWord_enabled :
    (hostTurn [0x10000000] off).schedule = { mover := .host, draws := unpressed 0 } :: [] ∧
    (hostTurn [0x10000000] off).commands = 0x10000000 :: [] ∧ decode (.word 0x10000000) = .ok .init ∧
    enabled .init (hostTurn [0x10000000] off) = true := by decide

theorem witness_CommandTurnRunsTheWord_held :
    (hostTurn [0x40000000] (homingR 0 0 1)).schedule = { mover := .host, draws := unpressed 0 } :: [] ∧
    (hostTurn [0x40000000] (homingR 0 0 1)).commands = 0x40000000 :: [] ∧ decode (.word 0x40000000) = .ok .isBusy ∧
    enabled .isBusy (hostTurn [0x40000000] (homingR 0 0 1)) = false := by decide

theorem witness_UndecodableWordIsRefused :
    (hostTurn [0x30000003] off).schedule = { mover := .host, draws := unpressed 0 } :: [] ∧
    (hostTurn [0x30000003] off).commands = 0x30000003 :: [] ∧ decodeWord 0x30000003 = .error .badMode ∧
    (hostTurn [0x30000003] off).phase = .uninit := by decide

theorem witness_UndecodableWordIsRefused_in_homing :
    (hostTurn [0x00000000] (homingL 0 0 1)).schedule = { mover := .host, draws := unpressed 0 } :: [] ∧
    (hostTurn [0x00000000] (homingL 0 0 1)).commands = 0x00000000 :: [] ∧
    decodeWord 0x00000000 = .error .reservedOpcode ∧ (hostTurn [0x00000000] (homingL 0 0 1)).phase = .homeL := by decide

theorem witness_QuietTurnsChangeNothing :
    off.schedule = [] ∧
    ((hostTurn [] off).schedule = { mover := .host, draws := unpressed 0 } :: [] ∧ (hostTurn [] off).commands = []) ∧
    (eventTurn 0x0 off).schedule = { mover := .event 0x0, draws := unpressed 0 } :: [] ∧
    ((eventTurn 0x5 off).schedule = { mover := .event 0x5, draws := unpressed 0 } :: [] ∧ 5 ≤ (0x5 : EventCode).toNat) ∧
    ((eventTurn 0xF off).schedule = { mover := .event 0xF, draws := unpressed 0 } :: [] ∧
      5 ≤ (0xF : EventCode).toNat) := by decide

/-- A switch-on in the middle of a motion. -/
def powerTurn : State :=
  { moving 2 99 100 1 0 with refused := true, schedule := [{ mover := .powerOn, draws := unpressed 0 }] }

theorem witness_PowerOnTurnResets :
    powerTurn.schedule = { mover := .powerOn, draws := unpressed 0 } :: [] ∧ powerTurn.phase ≠ .uninit := by decide

/-- A word taken and run, a word taken and refused, and a held word that stays. -/
theorem witness_NoCommandIsLost :
    (∃ t, step (hostTurn [0x40000000, 0x10000000] off) = .next t ∧ t.commands = [0x10000000] ∧
      decodeWord 0x40000000 = .ok .isBusy ∧ enabled .isBusy (hostTurn [0x40000000, 0x10000000] off) = true) ∧
    (∃ t, step (hostTurn [0x30000003, 0x10000000] off) = .next t ∧ t.commands = [0x10000000] ∧
      decodeWord 0x30000003 = .error .badMode ∧ t.refused = true) ∧
    ∃ t, step (hostTurn [0x10000000] (moving 2 99 100 1 0)) = .next t ∧ t.commands = [0x10000000] :=
  ⟨⟨_, rfl, by decide⟩, ⟨_, rfl, by decide⟩, _, rfl, by decide⟩

/-! ### Witnesses of the coil sequencer's and homing's statements -/

theorem witness_MaskedPortWrite :
    (7 < 8 ∧ (0xF0 : PortByte).getLsbD 4 = true ∧ (0xF0 : PortByte).getLsbD 3 = false) ∧
    (∃ t, exec .scan (homingR 0 0 1) = .next t ∧ t.portHi = 0x9 ∧ t.portHiHasValue = true) ∧
    ∃ t, exec .isBusy off = .next t ∧ t.portHiHasValue = false :=
  ⟨by decide, ⟨_, rfl, by decide⟩, _, rfl, rfl⟩

theorem witness_RepeatedStepsAreLinear : 1 ≤ 1 := by decide

theorem witness_FullStepKeepsParity :
    ({ off with dir := 2 } : State).dir.toInt = 2 ∧ ({ off with dir := -2 } : State).dir.toInt = -2 := by decide

theorem witness_InitStartsHoming : off.phase = .uninit ∧ (idleAt 5 50 163).phase = .idle := by decide

theorem witness_DisabledStepsAreHeld :
    (homingR 0 0 1).phase = .homeR ∧ (homingL 0 0 1).phase = .homeL ∧ (moving 2 99 100 1 0).phase = .stepping ∧
    (moving 2 99 100 1 0).pend = false ∧ (idleAt 0 0 0).ie = false ∧
    ((idleAt 0 0 0).phase ≠ .homeR ∧ (idleAt 0 0 0).phase ≠ .homeL) ∧
    ({ homingR 0 0 1 with settle := true } : State).settle = true ∧ (homingR 0 0 1).settle = false := by decide

theorem witness_ScanTestsThenStepsOrLeaves :
    ((homingR 3 (-37) 0).phase = .homeR ∧ (homingR 3 (-37) 0).settle = false ∧ (homingR 3 (-37) 0).draws.limRn = 0) ∧
    ((homingR 0 0 1).phase = .homeR ∧ (homingR 0 0 1).settle = false ∧ (homingR 0 0 1).draws.limRn = 1) ∧
    ((homingL 5 162 0).phase = .homeL ∧ (homingL 5 162 0).settle = false ∧ (homingL 5 162 0).draws.limLn = 0) ∧
    ((homingL 5 162 1).phase = .homeL ∧ (homingL 5 162 1).settle = false ∧ (homingL 5 162 1).draws.limLn = 1) ∧
    ({ homingL 5 162 1 with settle := true } : State).settle = true := by decide

/-- The first homing phase while its settle delay runs. -/
def settling : State := { homingR 7 (-1) 1 with settle := true }

theorem witness_blockInv_settling : BlockInv settling where
  busyIffStepping := by decide
  ieIffStepping := by decide
  configured := by decide
  settling := by decide
  modeLegal := by decide
  dirLegal := by decide
  homingDir := by decide
  portShowsIndex := fun _ => rfl

theorem witness_SettleDoneEndsTheDelay :
    (BlockInv settling ∧ settling.settle = true ∧ ∃ t, exec .isBusy settling = .next t) ∧
    (settling.settle = true ∧ settling.phase = .homeR) ∧
    (({ homingL 0 0 1 with settle := true } : State).settle = true ∧
      ({ homingL 0 0 1 with settle := true } : State).phase = .homeL) ∧ off.settle = false :=
  ⟨⟨witness_blockInv_settling, rfl, _, rfl⟩, ⟨rfl, rfl⟩, ⟨rfl, rfl⟩, rfl⟩

/-- The right switch pressed. -/
def pressedRight : Draws := { limRn := 0, limLn := 1, tcnt := 0 }

/-- The left switch pressed. -/
def pressedLeft : Draws := { limRn := 1, limLn := 0, tcnt := 0 }

/-- P1: two steps right, three steps left, here with a MATCH, a held command and a held TICK in between. -/
theorem witness_HomingOutcome :
    ∃ (l : List Drawn) (rights lefts : List (Draws × Draws)),
      rights.length = 2 ∧ lefts.length = 3 ∧ BlockInv off ∧ off.phase = .uninit ∧
      (∀ x ∈ rights, x.1.limRn = 1) ∧ pressedRight.limRn = 0 ∧ (∀ x ∈ lefts, x.1.limLn = 1) ∧ pressedLeft.limLn = 0 ∧
      l.filter isHomingEvent = homingPasses rights ++ (.scan, pressedRight) :: homingPasses lefts ∧
      l.length = 14 :=
  ⟨(.compareMatch, unpressed 0) :: (.tick, unpressed 0) :: (.isBusy, unpressed 0) ::
      (homingPasses [(unpressed 0, unpressed 0), (unpressed 0, unpressed 0)] ++ (.scan, pressedRight) ::
        homingPasses [(unpressed 0, unpressed 0), (unpressed 0, unpressed 0), (unpressed 0, unpressed 0)]),
    [(unpressed 0, unpressed 0), (unpressed 0, unpressed 0)],
    [(unpressed 0, unpressed 0), (unpressed 0, unpressed 0), (unpressed 0, unpressed 0)],
    rfl, rfl, witness_blockInv_off, rfl, by decide, rfl, by decide, rfl, by decide, rfl⟩

/-- The boundary: both switches pressed at their first SCAN, homing again from IDLE. -/
theorem witness_HomingOutcome_without_steps :
    BlockInv (idleAt 5 4 200) ∧ (idleAt 5 4 200).phase = .idle ∧ pressedRight.limRn = 0 ∧ pressedLeft.limLn = 0 ∧
    List.filter isHomingEvent [(.scan, pressedRight)] = homingPasses [] ++ (.scan, pressedRight) :: homingPasses [] :=
  ⟨witness_blockInv_idle, rfl, rfl, rfl, by decide⟩

/-- The steps of a hang: SCANs that see their switch not pressed, with the delay's end in between. -/
def hang : List Drawn :=
  [(.scan, unpressed 0), (.settleDone, unpressed 0), (.scan, unpressed 0), (.tick, unpressed 0), (.init, unpressed 0)]

theorem witness_HomingHangsUntilPressed :
    (BlockInv (homingR 0 0 1) ∧ (homingR 0 0 1).phase = .homeR ∧ ∀ x ∈ hang, x.2.limRn = 1) ∧
    (BlockInv (homingL 5 162 0) ∧ (homingL 5 162 0).phase = .homeL ∧ ∀ x ∈ hang, x.2.limLn = 1) :=
  ⟨⟨witness_blockInv_homingR, rfl, by decide⟩, ⟨witness_blockInv_homingL, rfl, by decide⟩⟩

theorem witness_HomingAndHandlerNeverOverlap :
    (BlockInv (homingR 0 0 1) ∧ (homingR 0 0 1).phase = .homeR) ∧
    (BlockInv (homingL 5 162 0) ∧ (homingL 5 162 0).phase = .homeL) ∧
    (idleAt 5 4 200).phase = .idle ∧ (moving 2 99 100 1 0).phase = .stepping :=
  ⟨⟨witness_blockInv_homingR, rfl⟩, ⟨witness_blockInv_homingL, rfl⟩, rfl, rfl⟩

theorem witness_SwitchesReadOnlyByScan :
    Instr.tick ≠ .scan ∧ (homingR 0 0 1).phase = .homeR ∧ (homingL 5 162 0).phase = .homeL := by decide

/-- Homing's end, and a command held in homing. -/
theorem witness_ReadyReturnsOnlyAtHomingsEnd :
    (BlockInv (homingL 5 162 0) ∧ (homingL 5 162 0).ready = false ∧
      ∃ t, exec .scan (homingL 5 162 0) = .next t ∧ t.ready = true) ∧
    (BlockInv (homingR 0 0 1) ∧ (homingR 0 0 1).ready = false ∧
      ∃ t, exec .isBusy (homingR 0 0 1) = .next t ∧ Instr.isBusy.agent = .host) :=
  ⟨⟨witness_blockInv_homingL, rfl, _, rfl, rfl⟩, ⟨witness_blockInv_homingR, rfl, _, rfl, rfl⟩⟩

/-! ### Witnesses of the motion requests' statements -/

theorem witness_SetAngleStartsMotion :
    (idleAt 5 4 200).phase = .idle ∧ (moving 2 99 100 1 0).phase = .stepping := by decide

theorem witness_SetAngleBeforeInitIsRefused : off.phase = .uninit := by decide

/-- Steps that set no other target or direction. -/
def someTicks : List Drawn :=
  [(.compareMatch, unpressed 0), (.tick, unpressed 0), (.isBusy, unpressed 0), (.compareMatch, unpressed 0),
   (.tick, unpressed 0)]

theorem witness_RetargetAbandonsTheOldMotion :
    (moving 2 99 100 1 0).phase = .stepping ∧ ∀ x ∈ someTicks, keepsTrajectory x.1 = true := by decide

theorem witness_AngleFoldIsTruncatingRemainder : (0 : Int) ≤ 0 ∧ (0 : Int) ≤ 32767 ∧ (-32768 : Int) ≤ 0 := by decide

/-- Both ends of the angles and of the travel range. -/
theorem witness_TargetWithinTravel :
    ((idleAt 5 4 32767).phase = .idle ∧ (0 : Int) ≤ 179 ∧ (179 : Int) ≤ 179 ∧ (idleAt 5 4 32767).maxs.toNat ≤ 32767) ∧
    ((moving 2 99 100 1 0).phase = .stepping ∧ (0 : Int) ≤ 0 ∧ (0 : Int) ≤ 179 ∧
      (moving 2 99 100 1 0).maxs.toNat ≤ 32767) := by decide

theorem witness_WideTravelWrapsTarget :
    (idleAt 5 4 65535).phase = .idle ∧ (0 : Int) ≤ 179 ∧ (179 : Int) ≤ 179 ∧
    32767 < (179 : Int) * (idleAt 5 4 65535).maxs.toNat / 180 := by decide

theorem witness_DirectionFollowsExactDifference :
    ((idleAt 5 4 200).phase = .idle ∧ (idleAt 5 4 200).mode = 1) ∧
    (({ moving 2 99 100 1 0 with mode := 2 } : State).phase = .stepping ∧
      ({ moving 2 99 100 1 0 with mode := 2 } : State).mode = 2) := by decide

theorem witness_SetStepModeWritesMode :
    (off.phase ≠ .homeR ∧ off.phase ≠ .homeL) ∧ (homingR 0 0 1).phase = .homeR ∧ (homingL 0 0 1).phase = .homeL ∧
    ((0 : BitVec 16) ≠ 1 ∧ (0 : BitVec 16) ≠ 2) ∧ ((3 : BitVec 16) ≠ 1 ∧ (3 : BitVec 16) ≠ 2) ∧
    ((0xFFFF : BitVec 16) ≠ 1 ∧ (0xFFFF : BitVec 16) ≠ 2) := by decide

theorem witness_ModeReadOnlyBySetAngle : ∀ angle, Instr.tick ≠ .setAngle angle := nofun

theorem witness_IsBusyAnswersTheFlag :
    (BlockInv (moving 2 99 100 1 0xFF00) ∧ (moving 2 99 100 1 0xFF00).phase ≠ .homeR ∧
      (moving 2 99 100 1 0xFF00).phase ≠ .homeL) ∧
    (BlockInv off ∧ off.phase ≠ .homeR ∧ off.phase ≠ .homeL) ∧
    (homingR 0 0 1).phase = .homeR ∧ (1 : BitVec 16) ≠ 0 ∧ (0xFFFF : BitVec 16) ≠ 0 :=
  ⟨⟨witness_blockInv_moving, by decide, by decide⟩, ⟨witness_blockInv_off, by decide, by decide⟩, rfl,
    by decide, by decide⟩

/-! ### Witnesses of the step handler's statements -/

/-- A pending flag, away from the target and at it. -/
theorem witness_TickStepsAndRearms :
    ({ moving 2 99 100 1 0xFF00 with pend := true } : State).ie = true ∧
    ({ moving 2 99 100 1 0xFF00 with pend := true } : State).pend = true ∧
    ({ moving 2 99 100 1 0xFF00 with pend := true } : State).pos ≠
      ({ moving 2 99 100 1 0xFF00 with pend := true } : State).tgt := by decide

theorem witness_TickStopsAtTarget :
    (({ moving 3 100 100 1 0 with pend := true } : State).ie = true ∧
      ({ moving 3 100 100 1 0 with pend := true } : State).pend = true ∧
      ({ moving 3 100 100 1 0 with pend := true } : State).pos =
        ({ moving 3 100 100 1 0 with pend := true } : State).tgt) ∧
    ((idleAt 5 4 200).ie = false ∧ ∀ x ∈ someTicks, ∀ angle, x.1 ≠ .setAngle angle) ∧
    (idleAt 5 4 200).phase = .idle := by
  refine ⟨by decide, ⟨rfl, ?_⟩, rfl⟩
  simp [someTicks]

theorem witness_EqualityIsTheOnlyStop :
    ({ moving 2 99 100 1 0 with pend := true } : State).ie = true ∧
    ({ moving 2 99 100 1 0 with pend := true } : State).pend = true ∧
    ({ moving 2 99 100 1 0 with pend := true } : State).phase = .stepping ∧
    ({ moving 2 99 100 1 0 with pend := true } : State).busy = true := by decide

theorem witness_CompareValueAdvances :
    (idleAt 6 0 200).phase = .idle ∧ (∀ x ∈ someTicks, keepsTrajectory x.1 = true) ∧
    (moving 2 99 100 1 0).phase = .stepping := by decide

/-- TICK at the target leaves STEPPING, SET_ANGLE and INIT complete in it. -/
theorem witness_OnlyTargetEndsStepping :
    BlockInv (moving 2 99 100 1 0xFF00) ∧ (moving 2 99 100 1 0xFF00).phase = .stepping ∧
    (∃ t, exec .tick (moving 2 99 100 1 0xFF00) = .next t) ∧
    (∃ t, exec (.setAngle 90) (moving 2 99 100 1 0xFF00) = .next t) ∧
    (∃ t, exec .init (moving 2 99 100 1 0xFF00) = .next t) :=
  ⟨witness_blockInv_moving, rfl, ⟨_, rfl⟩, ⟨_, rfl⟩, ⟨_, rfl⟩⟩

/-- A state that meets the invariants for each phase of the table. -/
theorem witness_PhaseTransitionTable :
    (BlockInv off ∧ off.phase = .uninit) ∧
    (BlockInv (homingR 0 0 1) ∧ (homingR 0 0 1).phase = .homeR ∧ (homingR 0 0 1).settle = false ∧
      (homingR 0 0 1).draws.limRn = 1) ∧
    (BlockInv (homingL 5 162 0) ∧ (homingL 5 162 0).phase = .homeL ∧ (homingL 5 162 0).settle = false ∧
      (homingL 5 162 0).draws.limLn = 0) ∧
    (BlockInv (idleAt 5 4 200) ∧ (idleAt 5 4 200).phase = .idle) ∧
    (BlockInv (moving 2 99 100 1 0xFF00) ∧ (moving 2 99 100 1 0xFF00).phase = .stepping ∧
      (moving 2 99 100 1 0xFF00).pos ≠ (moving 2 99 100 1 0xFF00).tgt) :=
  ⟨⟨witness_blockInv_off, rfl⟩, ⟨witness_blockInv_homingR, rfl, rfl, rfl⟩,
    ⟨witness_blockInv_homingL, rfl, rfl, rfl⟩, ⟨witness_blockInv_idle, rfl⟩,
    ⟨witness_blockInv_moving, rfl, by decide⟩⟩

/-! ### Witnesses of the statements about whole motions -/

/-- A half-step motion of three TICKs, and a full-step one over an odd difference (P2, P4). -/
theorem witness_MotionTakesExactlyNTicks :
    ((idleAt 5 4 4).phase = .idle ∧ (idleAt 5 4 4).mode = 1 ∧ ∀ x ∈ someTicks, keepsTrajectory x.1 = true) ∧
    after (exec (.setAngle 90) (idleAt 5 4 4)) (fun t => motionTicks 1 (t.tgt.toInt - 4)) = some (some 3) ∧
    ({ idleAt 0 0 180 with mode := 2 } : State).mode = 2 ∧
    after (exec (.setAngle 3) { idleAt 0 0 180 with mode := 2 }) (fun t => motionTicks 2 (t.tgt.toInt - 0)) =
      some none := by decide

theorem witness_OddFullStepMotionNeverEnds :
    (moving 4 4 3 2 0x0600).phase = .stepping ∧ (moving 4 4 3 2 0x0600).busy = true ∧
    (moving 4 4 3 2 0x0600).dir.toInt = 2 ∧
    ((moving 4 4 3 2 0x0600).tgt.toInt - (moving 4 4 3 2 0x0600).pos.toInt) % 2 = 1 ∧
    ∀ x ∈ someTicks, ∀ angle, x.1 ≠ .setAngle angle := by
  refine ⟨rfl, rfl, rfl, by decide, ?_⟩
  simp [someTicks]

theorem witness_MotionNeverOvershoots :
    ((idleAt 5 4 4).phase = .idle ∧ (idleAt 5 4 4).mode = 1 ∧ ∀ x ∈ someTicks, keepsTrajectory x.1 = true) ∧
    (({ idleAt 0 0 180 with mode := 2 } : State).mode = 2 ∧
      after (exec (.setAngle 10) { idleAt 0 0 180 with mode := 2 })
        (fun t => (t.tgt.toInt - ({ idleAt 0 0 180 with mode := 2 } : State).pos.toInt) % 2) = some 0) := by decide

/-- A motion of one step and its stop, the turns of MATCH and TICK alternating for ever. -/
def fairTurn (n : Nat) : Turn :=
  if n % 2 = 0 then { mover := .event 0x1, draws := unpressed 0 } else { mover := .event 0x2, draws := unpressed 0 }

/-- At rest at the target, PEND as given. -/
def arrived (pend : Bool) : State :=
  { moving 3 100 100 1 0x0200 with phase := .idle, ie := false, busy := false, pend := pend, draws := unpressed 0 }

/-- The states of that run. -/
def fairRun : Nat → State
  | 0 => moving 2 99 100 1 0
  | 1 => { moving 2 99 100 1 0 with pend := true, draws := unpressed 0 }
  | 2 => { moving 3 100 100 1 0x0200 with draws := unpressed 0 }
  | 3 => { moving 3 100 100 1 0x0200 with pend := true, draws := unpressed 0 }
  | 4 => arrived false
  | _ + 5 => arrived true

theorem fairRun_isRun : IsRun fairRun fairTurn (fun _ => []) := by
  intro n
  match n with
  | 0 => rfl
  | 1 => rfl
  | 2 => rfl
  | 3 => rfl
  | 4 => rfl
  | m + 5 =>
    have h : fairTurn (m + 5) = { mover := .event 0x1, draws := unpressed 0 } ∨
        fairTurn (m + 5) = { mover := .event 0x2, draws := unpressed 0 } := by
      unfold fairTurn; split <;> simp
    rcases h with h | h <;> rw [h] <;> rfl

theorem fairRun_never_homes (n : Nat) : enabled .scan (fairRun n) = false ∧ enabled .settleDone (fairRun n) = false := by
  match n with
  | 0 | 1 | 2 | 3 | 4 => decide
  | _ + 5 => exact ⟨rfl, rfl⟩

theorem fairRun_weaklyFair : WeaklyFair fairRun fairTurn where
  fairMatch := fun n _ => ⟨2 * n, by omega, by simp [fairTurn]⟩
  fairTick := fun n _ => ⟨2 * n + 1, by omega, by simp [fairTurn, Nat.add_mod]⟩
  fairScan := fun n h => absurd (h n le_rfl) (by simp [fairRun_never_homes])
  fairSettleDone := fun n h => absurd (h n le_rfl) (by simp [fairRun_never_homes])

theorem witness_HalfMotionEndsUnderFairness :
    IsRun fairRun fairTurn (fun _ => []) ∧ WeaklyFair fairRun fairTurn ∧
    (∀ m, 0 ≤ m → (fairTurn m).mover ≠ .powerOn) ∧ (fairRun 0).commands = [] ∧ (fairRun 0).phase = .stepping ∧
    (fairRun 0).ie = true ∧ (fairRun 0).busy = true ∧ (fairRun 0).dir.toInt = 1 := by
  refine ⟨fairRun_isRun, fairRun_weaklyFair, fun m _ => ?_, rfl, rfl, rfl, rfl, rfl⟩
  unfold fairTurn; split <;> simp

/-! ### Witnesses of the invariants and whole-machine rules -/

theorem witness_InvariantKeptByStep :
    BlockInv (moving 2 99 100 1 0xFF00) ∧ ∃ t, step (moving 2 99 100 1 0xFF00) = .next t :=
  ⟨witness_blockInv_moving, _, rfl⟩

/-- An INIT issued after power-on: a reachable state in homing. -/
theorem witness_InvariantOfReachableStates : ∃ s, Reachable s ∧ s.phase = .homeR :=
  ⟨_, .stepped (.offered [{ mover := .host, draws := unpressed 0 }] [0x10000000] .reset) rfl, rfl⟩

/-- Armed with the interrupt enabled, and a TICK that reads TC. -/
theorem witness_ChannelArmedKeptByStep :
    Armed (eventTurn 0x2 { moving 2 99 100 1 0xFF00 with pend := true }) ∧
    ∃ t, step (eventTurn 0x2 { moving 2 99 100 1 0xFF00 with pend := true }) = .next t ∧ t.tc = 0x0100 :=
  ⟨fun _ => rfl, _, rfl, by decide⟩

/-- Each register changes in some step. -/
theorem witness_WritersOfEachRegister :
    changes .init off State.phase = true ∧
    changes .scan (homingR 0 0 1) State.settle = true ∧
    changes .scan (homingR 0 0 1) State.idx = true ∧
    changes .tick { moving 2 99 100 1 0 with pend := true } State.pos = true ∧
    changes (.setAngle 90) (idleAt 5 4 4) State.tgt = true ∧
    changes .setStepModeFull off State.mode = true ∧
    changes (.setAngle 0) (idleAt 5 4 4) State.dir = true ∧
    changes .scan (homingL 5 162 0) State.maxs = true ∧
    changes (.setAngle 0) (idleAt 5 4 4) State.busy = true ∧
    changes .tick { moving 3 100 100 1 0 with pend := true } State.ie = true ∧
    changes .compareMatch off State.pend = true ∧
    changes .init off State.ioCfg = true ∧
    changes .tick { moving 2 99 100 1 0 with pend := true } State.tc = true ∧
    changes (.setAngle 0) (idleAt 5 4 4) State.tcHasValue = true ∧
    changes .scan (homingR 0 0 1) State.portHi = true ∧
    changes .scan { homingR 0 0 1 with portHiHasValue := false } State.portHiHasValue = true ∧
    changes (.setAngle 90) off State.refused = true ∧
    changes .isBusy off State.responses = true := by decide

theorem witness_RefusedMarkIsSticky :
    powerTurn.refused = true ∧ ∃ t, step powerTurn = .next t := ⟨rfl, _, rfl⟩

theorem witness_ConstantsNeverWritten :
    ∃ t, step (eventTurn 0x2 { moving 2 99 100 1 0 with pend := true }) = .next t := ⟨_, rfl⟩

end Sys2Proof.Tests
end

section
/-!
SUPPORT. What an instruction can do to the coil port (R51, R82): it keeps all eight bits, or STEP's one masked write puts
the table's entry at the new index in bits 7..4.
-/

namespace Sys2Proof.Machine

/-- `PortForce` on the whole port is the masked write (R51). -/
@[simp] theorem portForce_port (mask value : PortByte) (s : State) :
    (portForce mask value s).port = forceBits s.port mask value := by
  rw [State.port, portForce_portHi, portForce_portLo, BitVec.extractLsb'_append_extractLsb'_eq_extractLsb' (by decide)]
  exact BitVec.extractLsb'_eq_self

/-- All eight bits of the port stand as they stood. -/
def PortKept (s t : State) : Prop := t.portHi = s.portHi ∧ t.portLo = s.portLo

/-- PORT_HI shows the table's entry at the index, and bits 3..0 stand as they stood. -/
def PortShowsEntry (s t : State) : Prop := t.portHi = t.patternAt t.idx ∧ t.portLo = s.portLo

/-- Showing the entry is what the block's one masked write of that entry does. -/
theorem portShowsEntry_iff_portForce (s t : State) :
    PortShowsEntry s t ↔
      t.portHi = (portForce Config.coilMask (alignPattern (t.patternAt t.idx)) s).portHi ∧
        t.portLo = (portForce Config.coilMask (alignPattern (t.patternAt t.idx)) s).portLo := by
  rw [portForce_coil, PortShowsEntry]

theorem stepCoil_portShowsEntry (s : State) : PortShowsEntry s (stepCoil s) := by
  rw [stepCoil_eq]
  exact ⟨rfl, rfl⟩

theorem homingStep_portShowsEntry (s : State) : PortShowsEntry s (homingStep s) :=
  stepCoil_portShowsEntry s

theorem tickStep_portShowsEntry (s : State) : PortShowsEntry s (tickStep (consumePending s)) :=
  stepCoil_portShowsEntry (consumePending s)

theorem setMode_portKept {mode : ModeBits} {s t : State} (h : setMode mode s = .next t) : PortKept s t := by
  obtain ⟨-, rfl⟩ | ⟨-, rfl⟩ := setMode_cases h <;> exact ⟨rfl, rfl⟩

/-- The only instructions that write the port are those with a STEP inside, TICK and SCAN. -/
theorem exec_port_cases {i : Instr} {s t : State} (h : exec i s = .next t) :
    PortKept s t ∨ (i = .tick ∨ i = .scan) ∧ PortShowsEntry s t := by
  cases i with
  | init => obtain ⟨-, rfl⟩ | ⟨-, rfl⟩ := execInit_cases h <;> exact .inl ⟨rfl, rfl⟩
  | setAngle angle =>
    obtain ⟨-, rfl⟩ | ⟨-, rfl⟩ | ⟨-, -, rfl⟩ := execSetAngle_cases h <;> exact .inl ⟨rfl, rfl⟩
  | setStepModeHalf => exact .inl (setMode_portKept h)
  | setStepModeFull => exact .inl (setMode_portKept h)
  | isBusy => obtain ⟨-, rfl⟩ | ⟨-, rfl⟩ := execIsBusy_cases h <;> exact .inl ⟨rfl, rfl⟩
  | compareMatch =>
    obtain rfl := Host.Outcome.next.inj h
    exact .inl ⟨rfl, rfl⟩
  | tick =>
    obtain ⟨-, rfl⟩ | ⟨-, -, rfl⟩ | ⟨-, -, rfl⟩ := execTick_cases h
    · exact .inl ⟨rfl, rfl⟩
    · exact .inl ⟨rfl, rfl⟩
    · exact .inr ⟨.inl rfl, tickStep_portShowsEntry s⟩
  | scan =>
    obtain ⟨-, rfl⟩ | ⟨-, -, -, rfl⟩ | ⟨-, -, -, rfl⟩ | ⟨-, -, -, rfl⟩ | ⟨-, -, -, rfl⟩ := execScan_cases h
    · exact .inl ⟨rfl, rfl⟩
    · exact .inl ⟨rfl, rfl⟩
    · exact .inr ⟨.inr rfl, homingStep_portShowsEntry s⟩
    · exact .inl ⟨rfl, rfl⟩
    · exact .inr ⟨.inr rfl, homingStep_portShowsEntry s⟩
  | settleDone => obtain ⟨-, rfl⟩ | ⟨-, rfl⟩ := execSettleDone_cases h <;> exact .inl ⟨rfl, rfl⟩

/-- The block's one masked write changes PORT_HI and its mark only (R51). -/
theorem portForce_coil_frame (s : State) (p : Pattern) :
    portForce Config.coilMask (alignPattern p) s =
      { s with
        portHi := p
        portHiHasValue := (portForce Config.coilMask (alignPattern p) s).portHiHasValue } := by
  simp only [portForce_coil]

/-- Settles O16: the write bit by bit and on the whole port, its one use by the block, and the case split over the
instructions that finds no other write. -/
theorem maskedPortWrite : Obligations.MaskedPortWrite :=
  ⟨fun port mask value i _ => forceBits_getLsbD port mask value i,
   fun _ _ _ => rfl,
   fun s mask value => portForce_port mask value s,
   portForce_coil_frame,
   fun _ s t h => (exec_port_cases h).imp_right fun ⟨_, hEntry⟩ => (portShowsEntry_iff_portForce s t).1 hEntry⟩

end Sys2Proof.Machine
end

section
/-!
SUPPORT. What one STEP writes to the index and to the coil port (R81, R82).
-/

namespace Sys2Proof.Machine

/-- The index after a STEP is the advanced one: the port write and the count of the position leave it alone (R80). -/
@[simp] theorem stepCoil_idx (s : State) : (stepCoil s).idx = advanceIndex s.idx s.dir := rfl

/-- STEP reads the coil table and does not write it (R50). -/
@[simp] theorem stepCoil_coilTable (s : State) : (stepCoil s).coilTable = s.coilTable := rfl

/-- R81's form `(idx + direction) & 7`, taken in a wider word: the mask keeps the three bits of the 3-bit sum. -/
theorem advanceIndex_eq_masked (idx : StepIndex) (dir : Direction) :
    advanceIndex idx dir = ((idx.setWidth 8 + dir.signExtend 8) &&& 7).setWidth 3 := by
  have hMask : (7 : BitVec 8).setWidth 3 = BitVec.allOnes 3 := by decide
  have hDir : (dir.signExtend 8).setWidth 3 = dir := by
    ext i hi
    have hWide : i < 8 := by omega
    rw [BitVec.getElem_setWidth, BitVec.getLsbD_signExtend]
    simp [hi, hWide]
  rw [advanceIndex_eq_add, BitVec.setWidth_and, hMask, BitVec.and_allOnes, BitVec.setWidth_add _ _ (by decide), hDir,
    BitVec.setWidth_setWidth_of_le _ (by decide), BitVec.setWidth_eq]

/-- Settles O13: STEP's index is `advanceIndex`, which is both the true remainder and the masked sum. -/
theorem indexWrapsModEight : Obligations.IndexWrapsModEight := fun s => by
  rw [stepCoil_idx]
  exact ⟨advanceIndex_toNat s.idx s.dir, advanceIndex_eq_masked s.idx s.dir, (advanceIndex s.idx s.dir).isLt⟩

/-- Settles O14: after a STEP the port shows the table's entry at the new index, and the table is the one before it. -/
theorem patternAppliedToHighNibble : Obligations.PatternAppliedToHighNibble := fun s => by
  obtain ⟨hEntry, hLow⟩ := stepCoil_portShowsEntry s
  exact ⟨hEntry.trans (patternAt_congr (stepCoil_coilTable s) _), hLow⟩

end Sys2Proof.Machine
end

section
/-!
SUPPORT. Which of the environment's draws an instruction reads (R100, R105): noninterference, for any other draws that
agree on what it reads.
-/

namespace Sys2Proof.Machine

/-- The step `f` does not read what the update `g` changes: it answers the same next state, the update still made. -/
def Ignores (f : State → Result) (g : State → State) (s : State) : Prop :=
  ∃ t, f s = .next t ∧ f (g s) = .next (g t)

theorem ignores_next {run g : State → State} {s : State} (h : run (g s) = g (run s)) :
    Ignores (fun s => .next (run s)) g s :=
  ⟨run s, rfl, congrArg Host.Outcome.next h⟩

theorem ignores_ite {p : State → Prop} [DecidablePred p] {f₁ f₂ : State → Result} {g : State → State} {s : State}
    (hp : p (g s) ↔ p s) (h₁ : Ignores f₁ g s) (h₂ : Ignores f₂ g s) :
    Ignores (fun s => if p s then f₁ s else f₂ s) g s := by
  by_cases h : p s
  · simpa only [Ignores, hp, h, if_true] using h₁
  · simpa only [Ignores, hp, h, if_false] using h₂

/-- A step that is held unless enabled ignores what neither its enabling condition nor its effect reads. -/
theorem ignores_guarded {c : State → Bool} {f : State → Result} {g : State → State} {s : State}
    (hc : c (g s) = c s) (h : Ignores f g s) : Ignores (fun s => if c s then f s else held s) g s :=
  ignores_ite (p := fun s => c s = true) (by rw [hc]) h (ignores_next rfl)

/-- Other draws, all else as it was. -/
def State.withDraws (d : Draws) (s : State) : State := { s with draws := d }

/-- Of the draws a motion's start reads the timer count only (R105). -/
theorem startMotion_withDraws {d : Draws} {s : State} (h : d.tcnt = s.draws.tcnt) :
    startMotion (s.withDraws d) = (startMotion s).withDraws d := by
  simp only [startMotion, State.withDraws, h]
  rfl

/-- In the first homing phase the pass tests the right switch (R93). -/
theorem scanOnce_of_homeR {s : State} (h : s.phase = .homeR) :
    scanOnce s = if isPressed s.draws.limRn then reachRight s else homingStep s := if_pos h

/-- In the second homing phase the pass tests the left switch (R93). -/
theorem scanOnce_of_homeL {s : State} (h : s.phase = .homeL) :
    scanOnce s = if isPressed s.draws.limLn then reachLeft s else homingStep s := if_neg (by simp [h])

theorem scanOnce_withDraws_of_homeR {d : Draws} {s : State} (hPhase : s.phase = .homeR)
    (h : d.limRn = s.draws.limRn) : scanOnce (s.withDraws d) = (scanOnce s).withDraws d := by
  rw [scanOnce_of_homeR hPhase, scanOnce_of_homeR (s := s.withDraws d) hPhase, apply_ite (State.withDraws d), ← h]
  rfl

theorem scanOnce_withDraws_of_homeL {d : Draws} {s : State} (hPhase : s.phase = .homeL)
    (h : d.limLn = s.draws.limLn) : scanOnce (s.withDraws d) = (scanOnce s).withDraws d := by
  rw [scanOnce_of_homeL hPhase, scanOnce_of_homeL (s := s.withDraws d) hPhase, apply_ite (State.withDraws d), ← h]
  rfl

theorem execSetAngle_ignores_draws {d : Draws} {s : State} (angle : Int) (h : d.tcnt = s.draws.tcnt) :
    Ignores (execSetAngle angle) (State.withDraws d) s :=
  have hMoves : Ignores (fun s => .next (startMotion (aim angle s))) (State.withDraws d) s :=
    ignores_next (startMotion_withDraws (s := aim angle s) h)
  ignores_guarded rfl (ignores_ite (p := fun s => s.phase = .uninit) .rfl (ignores_next rfl) hMoves)

theorem setMode_ignores_draws (d : Draws) (s : State) (mode : ModeBits) :
    Ignores (setMode mode) (State.withDraws d) s :=
  ignores_guarded rfl (ignores_next rfl)

theorem execTick_ignores_draws (d : Draws) (s : State) : Ignores execTick (State.withDraws d) s :=
  ignores_guarded rfl (ignores_next (by rw [apply_ite (State.withDraws d)]; rfl))

/-- SCAN aside, an instruction reads no draw but the timer count. -/
theorem exec_ignores_draws {i : Instr} (hi : i ≠ .scan) {d : Draws} {s : State} (h : d.tcnt = s.draws.tcnt) :
    Ignores (exec i) (State.withDraws d) s := by
  cases i with
  | init => exact ignores_guarded rfl (ignores_next rfl)
  | setAngle angle => exact execSetAngle_ignores_draws angle h
  | setStepModeHalf => exact setMode_ignores_draws d s Config.half
  | setStepModeFull => exact setMode_ignores_draws d s Config.full
  | isBusy => exact ignores_guarded rfl (ignores_next rfl)
  | compareMatch => exact ignores_next rfl
  | tick => exact execTick_ignores_draws d s
  | scan => exact absurd rfl hi
  | settleDone => exact ignores_guarded rfl (ignores_next rfl)

theorem execScan_ignores_draws_of_homeR {d : Draws} {s : State} (hPhase : s.phase = .homeR)
    (h : d.limRn = s.draws.limRn) : Ignores execScan (State.withDraws d) s :=
  ignores_guarded rfl (ignores_next (scanOnce_withDraws_of_homeR hPhase h))

theorem execScan_ignores_draws_of_homeL {d : Draws} {s : State} (hPhase : s.phase = .homeL)
    (h : d.limLn = s.draws.limLn) : Ignores execScan (State.withDraws d) s :=
  ignores_guarded rfl (ignores_next (scanOnce_withDraws_of_homeL hPhase h))

/-- Settles O26: SCAN aside no instruction reads a draw but the timer count, and SCAN in a homing phase reads only that
phase's switch. -/
theorem switchesReadOnlyByScan : Obligations.SwitchesReadOnlyByScan :=
  ⟨fun _ s right left hi => exec_ignores_draws (d := { s.draws with limRn := right, limLn := left }) hi rfl,
   fun s left hPhase => execScan_ignores_draws_of_homeR (d := { s.draws with limLn := left }) hPhase rfl,
   fun s right hPhase => execScan_ignores_draws_of_homeL (d := { s.draws with limRn := right }) hPhase rfl⟩

end Sys2Proof.Machine
end

section
/-!
SUPPORT. The step handler (R121, R123, R127): what an enabled TICK does at the target and away from it, which
instructions write IE, and that no TICK is taken while none of them can set it.
-/

namespace Sys2Proof.Machine

@[simp] theorem tickStep_phase (s : State) : (tickStep s).phase = s.phase := rfl

@[simp] theorem tickStep_busy (s : State) : (tickStep s).busy = s.busy := rfl

/-- An enabled TICK at the target takes the stop path (R121, R123). -/
theorem exec_tick_of_pos_eq_tgt {s : State} (hEnabled : s.tickEnabled = true) (hPos : s.pos = s.tgt) :
    exec .tick s = .next (tickStop (consumePending s)) := by
  have hTarget : (consumePending s).atTarget = true := (atTarget_eq_true_iff _).2 hPos
  simp [exec, execTick, hEnabled, hTarget]

/-- An enabled TICK away from the target takes a step (R121). -/
theorem exec_tick_of_pos_ne_tgt {s : State} (hEnabled : s.tickEnabled = true) (hPos : s.pos ≠ s.tgt) :
    exec .tick s = .next (tickStep (consumePending s)) := by
  have hTarget : ¬ (consumePending s).atTarget = true := mt (atTarget_eq_true_iff _).1 hPos
  simp [exec, execTick, hEnabled, hTarget]

/-- SET_ANGLE in IDLE starts a motion (R105). -/
theorem exec_setAngle_of_idle (angle : Int) {s : State} (hPhase : s.phase = .idle) :
    exec (.setAngle angle) s = .next (startMotion (aim angle s)) := by
  have hReady : s.ready = true := (ready_eq_true_iff s).2 (by simp [hPhase])
  simp [exec, execSetAngle, hReady, hPhase]

theorem setMode_ie {mode : ModeBits} {s t : State} (h : setMode mode s = .next t) : t.ie = s.ie := by
  obtain ⟨-, rfl⟩ | ⟨-, rfl⟩ := setMode_cases h <;> rfl

/-- The only writers of IE are SET_ANGLE, which sets it, and TICK, which clears it (R36, R41). -/
theorem exec_ie_cases {i : Instr} {s t : State} (h : exec i s = .next t) :
    t.ie = s.ie ∨ (∃ angle, i = .setAngle angle) ∧ t.ie = true ∨ i = .tick ∧ t.ie = false := by
  cases i with
  | init => obtain ⟨-, rfl⟩ | ⟨-, rfl⟩ := execInit_cases h <;> exact .inl rfl
  | setAngle angle =>
    obtain ⟨-, rfl⟩ | ⟨-, rfl⟩ | ⟨-, -, rfl⟩ := execSetAngle_cases h
    · exact .inl rfl
    · exact .inl rfl
    · exact .inr (.inl ⟨⟨angle, rfl⟩, rfl⟩)
  | setStepModeHalf => exact .inl (setMode_ie h)
  | setStepModeFull => exact .inl (setMode_ie h)
  | isBusy => obtain ⟨-, rfl⟩ | ⟨-, rfl⟩ := execIsBusy_cases h <;> exact .inl rfl
  | compareMatch =>
    obtain rfl := Host.Outcome.next.inj h
    exact .inl rfl
  | tick =>
    obtain ⟨-, rfl⟩ | ⟨-, -, rfl⟩ | ⟨-, -, rfl⟩ := execTick_cases h
    · exact .inl rfl
    · exact .inr (.inr ⟨rfl, rfl⟩)
    · exact .inl rfl
  | scan =>
    obtain ⟨-, rfl⟩ | ⟨-, -, -, rfl⟩ | ⟨-, -, -, rfl⟩ | ⟨-, -, -, rfl⟩ | ⟨-, -, -, rfl⟩ := execScan_cases h <;>
      exact .inl rfl
  | settleDone => obtain ⟨-, rfl⟩ | ⟨-, rfl⟩ := execSettleDone_cases h <;> exact .inl rfl

/-- SET_ANGLE aside, an instruction leaves IE clear. -/
theorem exec_keeps_ie_false {i : Instr} {s t : State} (h : exec i s = .next t) (hi : ∀ angle, i ≠ .setAngle angle)
    (hIe : s.ie = false) : t.ie = false := by
  obtain hKept | ⟨⟨angle, hAngle⟩, -⟩ | ⟨-, hClear⟩ := exec_ie_cases h
  · exact hKept.trans hIe
  · exact absurd hAngle (hi angle)
  · exact hClear

/-- From IE = 0 no TICK is taken while no SET_ANGLE comes: IE stays 0, and TICK needs it (R123). -/
theorem takenTicks_eq_zero_of_ie_false {s : State} {l : List Drawn} (hIe : s.ie = false)
    (hl : ∀ x ∈ l, ∀ angle, x.1 ≠ .setAngle angle) : takenTicks l s = 0 := by
  induction l generalizing s with
  | nil => rfl
  | cons x later ih =>
    obtain ⟨hx, hLater⟩ := List.forall_mem_cons.1 hl
    have hHeld : s.tickEnabled = false := by simp [State.tickEnabled, hIe]
    cases hExec : exec x.1 { s with draws := x.2 } with
    | next t =>
      have hRest : takenTicks later t = 0 := ih (exec_keeps_ie_false hExec hx hIe) hLater
      simp [takenTicks, hExec, hHeld, hRest]
    | fault r => simp [takenTicks, hExec]
    | refused r => simp [takenTicks, hExec]

/-- Settles O40: the stop path, and IE as the invariant that keeps every later TICK held until a SET_ANGLE. -/
theorem tickStopsAtTarget : Obligations.TickStopsAtTarget :=
  ⟨fun s hIe hPend hPos => exec_tick_of_pos_eq_tgt ((tickEnabled_eq_true_iff s).2 ⟨hIe, hPend⟩) hPos,
   fun _ _ hIe hl => takenTicks_eq_zero_of_ie_false hIe hl,
   fun _ hIe => ⟨_, rfl, rfl, hIe⟩,
   fun _ angle hPhase => ⟨_, exec_setAngle_of_idle angle hPhase, rfl, rfl⟩⟩

/-- Settles O41: TICK stops at POS = TGT and steps otherwise, a step keeps PHASE and BUSY, and two words are equal when
their bits are. -/
theorem equalityIsTheOnlyStop : Obligations.EqualityIsTheOnlyStop := by
  intro s hIe hPend hPhase hBusy
  have hEnabled : s.tickEnabled = true := (tickEnabled_eq_true_iff s).2 ⟨hIe, hPend⟩
  rw [← BitVec.eq_of_getLsbD_eq_iff]
  by_cases hPos : s.pos = s.tgt
  · exact ⟨_, exec_tick_of_pos_eq_tgt hEnabled hPos, iff_of_true rfl hPos, iff_of_true rfl hPos⟩
  · have hPhaseStays : (tickStep (consumePending s)).phase ≠ .idle := by simp [hPhase]
    have hBusyStays : (tickStep (consumePending s)).busy ≠ false := by simp [hBusy]
    exact ⟨_, exec_tick_of_pos_ne_tgt hEnabled hPos, iff_of_false hPhaseStays hPos, iff_of_false hBusyStays hPos⟩

end Sys2Proof.Machine
end

section
/-!
SUPPORT. What an instruction does, as a relation between the state before and the state after: `exec` is this relation,
so a proof about all instructions splits on its cases, and a proof about one cites the case it needs.
-/

namespace Sys2Proof.Machine

/-- The switch of the homing phase that runs, as this step draws it (R93). -/
def State.phaseSwitch (s : State) : Level := if s.phase = .homeR then s.draws.limRn else s.draws.limLn

theorem phaseSwitch_of_homeR {s : State} (h : s.phase = .homeR) : s.phaseSwitch = s.draws.limRn := if_pos h

theorem phaseSwitch_of_homeL {s : State} (h : s.phase = .homeL) : s.phaseSwitch = s.draws.limLn :=
  if_neg (by simp [h])

theorem isPressed_eq_true_iff (level : Level) : isPressed level = true ↔ level = 0 := beq_iff_eq

theorem isPressed_eq_false_iff (level : Level) : isPressed level = false ↔ level = 1 := by
  revert level; decide

/-- With the switch of its phase not pressed a pass steps (R93). -/
theorem scanOnce_of_not_pressed {s : State} (hPhase : s.phase = .homeR ∨ s.phase = .homeL) (h : s.phaseSwitch = 1) :
    scanOnce s = homingStep s := by
  rcases hPhase with hR | hL
  · rw [scanOnce_of_homeR hR, ← phaseSwitch_of_homeR hR, h]
    rfl
  · rw [scanOnce_of_homeL hL, ← phaseSwitch_of_homeL hL, h]
    rfl

/-- READY phase by phase: UNINIT, where SET_ANGLE is refused (R106), and the two phases in which it moves (R105). -/
theorem ready_eq_true_iff_phase (s : State) :
    s.ready = true ↔ s.phase = .uninit ∨ s.phase = .idle ∨ s.phase = .stepping := by
  rw [ready_eq_true_iff]
  cases s.phase <;> decide

theorem ready_eq_false_iff (s : State) : s.ready = false ↔ s.phase = .homeR ∨ s.phase = .homeL := by
  rw [← homing_eq_true_iff, State.ready, Bool.not_eq_false']

/-- The effect of one instruction (R64): held, or one of the ways its rule gives. -/
inductive Effect (s : State) : Instr → State → Prop where
  /-- A step that is not enabled (R17). -/
  | held {i : Instr} : enabled i s = false → Effect s i s
  /-- R90. -/
  | starts : s.phase = .uninit ∨ s.phase = .idle → Effect s .init (startHoming s)
  /-- R106. -/
  | refused (angle : Int) : s.phase = .uninit →
      Effect s (.setAngle angle) (refuse .notHomed (setAngleWord angle) (some .uninit) s)
  /-- R105 and R113. -/
  | moves (angle : Int) : s.phase = .idle ∨ s.phase = .stepping →
      Effect s (.setAngle angle) (startMotion (aim angle s))
  /-- R110, HALF. -/
  | setsHalf : s.ready = true → Effect s .setStepModeHalf { s with mode := Config.half }
  /-- R110, FULL. -/
  | setsFull : s.ready = true → Effect s .setStepModeFull { s with mode := Config.full }
  /-- R112. -/
  | responds : s.ready = true → Effect s .isBusy (respond (responseWord s.busy) s)
  /-- R120. -/
  | marks : Effect s .compareMatch { s with pend := true }
  /-- R121 at the target. -/
  | stops : s.tickEnabled = true → s.pos = s.tgt → Effect s .tick (tickStop (consumePending s))
  /-- R121 away from it. -/
  | steps : s.tickEnabled = true → s.pos ≠ s.tgt → Effect s .tick (tickStep (consumePending s))
  /-- R93, the right switch pressed. -/
  | reachesRight : s.settle = false → s.phase = .homeR → s.draws.limRn = 0 → Effect s .scan (reachRight s)
  /-- R93, the left switch pressed. -/
  | reachesLeft : s.settle = false → s.phase = .homeL → s.draws.limLn = 0 → Effect s .scan (reachLeft s)
  /-- R93, the switch of the phase not pressed. -/
  | homes : s.settle = false → s.phase = .homeR ∨ s.phase = .homeL → s.phaseSwitch = 1 → Effect s .scan (homingStep s)
  /-- R97. -/
  | settles : s.settle = true → Effect s .settleDone { s with settle := false }

/-- Whatever an instruction answers is one of the effects. -/
theorem exec_effect {i : Instr} {s t : State} (h : exec i s = .next t) : Effect s i t := by
  cases i with
  | init =>
    obtain ⟨hEnabled, rfl⟩ | ⟨hHeld, rfl⟩ := execInit_cases h
    · exact .starts ((initEnabled_eq_true_iff s).1 hEnabled)
    · exact .held hHeld
  | setAngle angle =>
    obtain ⟨hHeld, rfl⟩ | ⟨hUninit, rfl⟩ | ⟨hReady, hUninit, rfl⟩ := execSetAngle_cases h
    · exact .held hHeld
    · exact .refused angle hUninit
    · exact .moves angle (((ready_eq_true_iff_phase s).1 hReady).resolve_left hUninit)
  | setStepModeHalf =>
    obtain ⟨hReady, rfl⟩ | ⟨hHeld, rfl⟩ := setMode_cases h
    · exact .setsHalf hReady
    · exact .held hHeld
  | setStepModeFull =>
    obtain ⟨hReady, rfl⟩ | ⟨hHeld, rfl⟩ := setMode_cases h
    · exact .setsFull hReady
    · exact .held hHeld
  | isBusy =>
    obtain ⟨hReady, rfl⟩ | ⟨hHeld, rfl⟩ := execIsBusy_cases h
    · exact .responds hReady
    · exact .held hHeld
  | compareMatch =>
    obtain rfl := Host.Outcome.next.inj h
    exact .marks
  | tick =>
    obtain ⟨hHeld, rfl⟩ | ⟨hEnabled, hPos, rfl⟩ | ⟨hEnabled, hPos, rfl⟩ := execTick_cases h
    · exact .held hHeld
    · exact .stops hEnabled hPos
    · exact .steps hEnabled hPos
  | scan =>
    obtain ⟨hHeld, rfl⟩ | ⟨hEnabled, hPhase, hSwitch, rfl⟩ | ⟨hEnabled, hPhase, hSwitch, rfl⟩ |
      ⟨hEnabled, hPhase, hSwitch, rfl⟩ | ⟨hEnabled, hPhase, hSwitch, rfl⟩ := execScan_cases h
    · exact .held hHeld
    · exact .reachesRight ((scanEnabled_eq_true_iff s).1 hEnabled).2 hPhase ((isPressed_eq_true_iff _).1 hSwitch)
    · exact .homes ((scanEnabled_eq_true_iff s).1 hEnabled).2 (.inl hPhase)
        ((phaseSwitch_of_homeR hPhase).trans ((isPressed_eq_false_iff _).1 hSwitch))
    · exact .reachesLeft ((scanEnabled_eq_true_iff s).1 hEnabled).2 hPhase ((isPressed_eq_true_iff _).1 hSwitch)
    · exact .homes ((scanEnabled_eq_true_iff s).1 hEnabled).2 (.inr hPhase)
        ((phaseSwitch_of_homeL hPhase).trans ((isPressed_eq_false_iff _).1 hSwitch))
  | settleDone =>
    obtain ⟨hSettle, rfl⟩ | ⟨hHeld, rfl⟩ := execSettleDone_cases h
    · exact .settles hSettle
    · exact .held hHeld

theorem exists_next_ite {p : Prop} [Decidable p] {a b : Result} (ha : ∃ t, a = .next t) (hb : ∃ t, b = .next t) :
    ∃ t, (if p then a else b) = .next t := by
  split
  · exact ha
  · exact hb

/-- Every instruction answers a next state: `exec` has no other outcome (R140, D4). -/
theorem exec_total (i : Instr) (s : State) : ∃ t, exec i s = .next t := by
  cases i with
  | setAngle angle => exact exists_next_ite (exists_next_ite ⟨_, rfl⟩ ⟨_, rfl⟩) ⟨_, rfl⟩
  | compareMatch => exact ⟨_, rfl⟩
  | init => exact exists_next_ite ⟨_, rfl⟩ ⟨_, rfl⟩
  | setStepModeHalf => exact exists_next_ite ⟨_, rfl⟩ ⟨_, rfl⟩
  | setStepModeFull => exact exists_next_ite ⟨_, rfl⟩ ⟨_, rfl⟩
  | isBusy => exact exists_next_ite ⟨_, rfl⟩ ⟨_, rfl⟩
  | tick => exact exists_next_ite ⟨_, rfl⟩ ⟨_, rfl⟩
  | scan => exact exists_next_ite ⟨_, rfl⟩ ⟨_, rfl⟩
  | settleDone => exact exists_next_ite ⟨_, rfl⟩ ⟨_, rfl⟩

/-- A step that is not enabled is held (R17; log 8). -/
theorem exec_of_not_enabled {i : Instr} {s : State} (h : enabled i s = false) : exec i s = .next s := by
  have hGuard : ¬ enabled i s = true := ne_true_of_eq_false h
  cases i with
  | compareMatch => exact absurd rfl hGuard
  | init => exact if_neg hGuard
  | setAngle angle => exact if_neg hGuard
  | setStepModeHalf => exact if_neg hGuard
  | setStepModeFull => exact if_neg hGuard
  | isBusy => exact if_neg hGuard
  | tick => exact if_neg hGuard
  | scan => exact if_neg hGuard
  | settleDone => exact if_neg hGuard

/-- Each effect is what `exec` answers. -/
theorem Effect.exec_eq {i : Instr} {s t : State} (h : Effect s i t) : exec i s = .next t := by
  cases h with
  | held hHeld => exact exec_of_not_enabled hHeld
  | starts hPhase => exact if_pos ((initEnabled_eq_true_iff s).2 hPhase)
  | refused angle hPhase =>
    have hReady : s.ready = true := (ready_eq_true_iff_phase s).2 (.inl hPhase)
    simp only [exec, execSetAngle, hReady, hPhase, if_true]
  | moves angle hPhase =>
    have hReady : s.ready = true := (ready_eq_true_iff_phase s).2 (.inr hPhase)
    have hUninit : s.phase ≠ .uninit := by rintro h; simp [h] at hPhase
    simp only [exec, execSetAngle, hReady, hUninit, if_true, if_false]
  | setsHalf hReady => exact if_pos hReady
  | setsFull hReady => exact if_pos hReady
  | responds hReady => exact if_pos hReady
  | marks => rfl
  | stops hEnabled hPos => exact exec_tick_of_pos_eq_tgt hEnabled hPos
  | steps hEnabled hPos => exact exec_tick_of_pos_ne_tgt hEnabled hPos
  | reachesRight hSettle hPhase hSwitch =>
    rw [exec, execScan, if_pos ((scanEnabled_eq_true_iff s).2 ⟨.inl hPhase, hSettle⟩), scanOnce_of_homeR hPhase,
      if_pos ((isPressed_eq_true_iff _).2 hSwitch)]
  | reachesLeft hSettle hPhase hSwitch =>
    rw [exec, execScan, if_pos ((scanEnabled_eq_true_iff s).2 ⟨.inr hPhase, hSettle⟩), scanOnce_of_homeL hPhase,
      if_pos ((isPressed_eq_true_iff _).2 hSwitch)]
  | homes hSettle hPhase hSwitch =>
    rw [exec, execScan, if_pos ((scanEnabled_eq_true_iff s).2 ⟨hPhase, hSettle⟩),
      scanOnce_of_not_pressed hPhase hSwitch]
  | settles hSettle => exact if_pos hSettle

end Sys2Proof.Machine
end

section
/-!
SUPPORT. The decoder and the encoder (R61 to R69): each undoes the other, the decoder answers exactly on the rows of the
opcode table, and its refusals come in the order of R65.
-/

namespace Sys2Proof

/-- An angle of R66 survives its 16-bit operand. -/
theorem toInt_ofInt_of_wellFormed {angle : Int} (h : (Instr.setAngle angle).WellFormed) :
    (BitVec.ofInt 16 angle).toInt = angle := by
  simp only [Instr.WellFormed, Instr.wellFormed, Bool.and_eq_true, decide_eq_true_eq] at h
  obtain ⟨hLow, hHigh⟩ := h
  rw [BitVec.toInt_ofInt]
  exact Int.bmod_eq_of_le (by omega) (by omega)

theorem decodeWord_setAngleWord (angle : Int) :
    decodeWord (setAngleWord angle) = .ok (.setAngle (BitVec.ofInt 16 angle).toInt) := by
  simp [decodeWord, setAngleWord, checkReserved]

theorem decode_word_eq_ok_iff {w : CommandWord} {i : Instr} : decode (.word w) = .ok i ↔ decodeWord w = .ok i := by
  cases h : decodeWord w <;> simp [decode, h]

theorem decode_event_eq_ok_iff {e : EventCode} {i : Instr} : decode (.event e) = .ok i ↔ decodeEvent e = some i := by
  cases h : decodeEvent e <;> simp [decode, h]

/-- Settles O2: each fixed word and event code decodes by computation, and SET_ANGLE's operand survives its 16 bits. -/
theorem decodeOfEncode : Obligations.DecodeOfEncode := by
  intro i hi
  cases i with
  | setAngle angle =>
    rw [encode, decode_word_eq_ok_iff, decodeWord_setAngleWord, toInt_ofInt_of_wellFormed hi]
  | init => decide
  | setStepModeHalf => decide
  | setStepModeFull => decide
  | isBusy => decide
  | compareMatch => decide
  | tick => decide
  | scan => decide
  | settleDone => decide

/-- Every operand of 16 bits, read as signed, is an angle of R66. -/
theorem setAngle_toInt_wellFormed (opd : BitVec 16) : (Instr.setAngle opd.toInt).WellFormed := by
  have hLow := BitVec.le_toInt opd
  have hHigh := BitVec.toInt_lt (x := opd)
  simp only [Instr.WellFormed, Instr.wellFormed, Bool.and_eq_true, decide_eq_true_eq]
  omega

/-- A word that decodes is the encoding of what it decodes to. -/
theorem encode_of_decodeWord {w : CommandWord} {i : Instr} (h : decodeWord w = .ok i) :
    i.WellFormed ∧ encode i = .word w := by
  obtain ⟨hRsv, hFields⟩ := decodeWord_ok_cases h
  have hWord := wordOf_fields hRsv
  rcases hFields with ⟨hOp, hOpd, rfl⟩ | ⟨hOp, rfl⟩ | ⟨hOp, hOpd, rfl⟩ | ⟨hOp, hOpd, rfl⟩ | ⟨hOp, hOpd, rfl⟩
  case inr.inl =>
    refine ⟨setAngle_toInt_wellFormed _, ?_⟩
    rw [hOp] at hWord
    rw [encode, setAngleWord, BitVec.ofInt_toInt]
    exact congrArg Code.word hWord
  all_goals
    rw [hOp, hOpd] at hWord
    exact ⟨rfl, congrArg Code.word hWord⟩

/-- The event codes that name a step (R64). -/
theorem decodeEvent_some_cases {e : EventCode} {i : Instr} (h : decodeEvent e = some i) :
    (e = 1 ∧ i = .compareMatch) ∨ (e = 2 ∧ i = .tick) ∨ (e = 3 ∧ i = .scan) ∨ (e = 4 ∧ i = .settleDone) := by
  unfold decodeEvent at h
  split at h
  · exact .inl ⟨‹_›, (Option.some.inj h).symm⟩
  · split at h
    · exact .inr (.inl ⟨‹_›, (Option.some.inj h).symm⟩)
    · split at h
      · exact .inr (.inr (.inl ⟨‹_›, (Option.some.inj h).symm⟩))
      · split at h
        · exact .inr (.inr (.inr ⟨‹_›, (Option.some.inj h).symm⟩))
        · cases h

/-- Settles O3: the fields of a word that decodes are those the encoder writes, and each event code has one name. -/
theorem encodeOfDecode : Obligations.EncodeOfDecode := by
  intro c i h
  cases c with
  | word w => exact encode_of_decodeWord (decode_word_eq_ok_iff.1 h)
  | event e =>
    obtain ⟨rfl, rfl⟩ | ⟨rfl, rfl⟩ | ⟨rfl, rfl⟩ | ⟨rfl, rfl⟩ := decodeEvent_some_cases (decode_event_eq_ok_iff.1 h) <;>
      exact ⟨rfl, rfl⟩

/-- The encoding of a well-formed instruction matches its row of the table (R63, R64). -/
theorem row_accepts_encode {i : Instr} (h : i.WellFormed) : i.row.accepts (encode i) = true := by
  cases i with
  | init => exact Laws.RowEncoding.init h
  | setAngle angle => exact Laws.RowEncoding.setAngle angle h
  | setStepModeHalf => exact Laws.RowEncoding.setStepModeHalf h
  | setStepModeFull => exact Laws.RowEncoding.setStepModeFull h
  | isBusy => exact Laws.RowEncoding.isBusy h
  | compareMatch => exact Laws.RowEncoding.compareMatch h
  | tick => exact Laws.RowEncoding.tick h
  | scan => exact Laws.RowEncoding.scan h
  | settleDone => exact Laws.RowEncoding.settleDone h

theorem opField_and (v w : CommandWord) : opField (v &&& w) = opField v &&& opField w := BitVec.extractLsb'_and

theorem rsvField_and (v w : CommandWord) : rsvField (v &&& w) = rsvField v &&& rsvField w := BitVec.extractLsb'_and

/-- SET_ANGLE's row fixes the upper two fields and leaves the operand free (R63). -/
theorem decodeWord_of_setAngle_row {w : CommandWord} (h : w &&& 0xFFFF0000 = 0x20000000) :
    decodeWord w = .ok (.setAngle (opdField w).toInt) := by
  have hOp : opField w = 2 := by
    have hField := congrArg opField h
    rwa [opField_and, show opField 0xFFFF0000 = BitVec.allOnes 4 by decide, BitVec.and_allOnes] at hField
  have hRsv : rsvField w = 0 := by
    have hField := congrArg rsvField h
    rwa [rsvField_and, show rsvField 0xFFFF0000 = BitVec.allOnes 12 by decide, BitVec.and_allOnes] at hField
  simp [decodeWord, checkReserved, hOp, hRsv]

/-- A row without operand accepts the one word it lists. -/
theorem eq_of_and_full_mask {v w : CommandWord} (h : (w &&& 0xFFFFFFFF == v) = true) : w = v := by
  have hMask : (0xFFFFFFFF : CommandWord) = BitVec.allOnes 32 := by decide
  rwa [hMask, BitVec.and_allOnes, beq_iff_eq] at h

/-- A word that matches a row decodes. -/
theorem decodeWord_of_row {w : CommandWord} {i : Instr} (h : i.row.accepts (.word w) = true) :
    ∃ j, decodeWord w = .ok j := by
  cases i with
  | setAngle angle => exact ⟨_, decodeWord_of_setAngle_row (beq_iff_eq.1 h)⟩
  | init => rw [eq_of_and_full_mask h]; exact ⟨.init, by decide⟩
  | setStepModeHalf => rw [eq_of_and_full_mask h]; exact ⟨.setStepModeHalf, by decide⟩
  | setStepModeFull => rw [eq_of_and_full_mask h]; exact ⟨.setStepModeFull, by decide⟩
  | isBusy => rw [eq_of_and_full_mask h]; exact ⟨.isBusy, by decide⟩
  | compareMatch => cases h
  | tick => cases h
  | scan => cases h
  | settleDone => cases h

/-- A word matches the row of what it decodes to: it is that instruction's encoding. -/
theorem row_accepts_of_decodeWord {w : CommandWord} {i : Instr} (h : decodeWord w = .ok i) :
    i.row.accepts (.word w) = true := by
  obtain ⟨hWellFormed, hWord⟩ := encode_of_decodeWord h
  exact hWord ▸ row_accepts_encode hWellFormed

/-- Settles O4: what decodes is an encoding, which its row accepts, and each row's words decode. -/
theorem wordDecodesIffItMatchesARow : Obligations.WordDecodesIffItMatchesARow := fun _ =>
  ⟨⟨fun ⟨i, h⟩ => ⟨i, row_accepts_of_decodeWord h⟩, fun ⟨_, h⟩ => decodeWord_of_row h⟩,
   fun _ h => row_accepts_of_decodeWord h⟩

theorem checkReserved_eq_error_iff {w : CommandWord} {k : Except RefuseReason Instr} {r : RefuseReason} :
    checkReserved w k = .error r ↔ (rsvField w ≠ 0 ∧ r = .reservedBits) ∨ (rsvField w = 0 ∧ k = .error r) := by
  by_cases h : rsvField w = 0 <;> simp_all [checkReserved, eq_comm (a := r)]

theorem checkNoOperand_eq_error_iff {w : CommandWord} {i : Instr} {r : RefuseReason} :
    checkNoOperand w i = .error r ↔ opdField w ≠ 0 ∧ r = .reservedOperand := by
  by_cases h : opdField w = 0 <;> simp_all [checkNoOperand, eq_comm (a := r)]

theorem decodeMode_eq_error_iff {opd : BitVec 16} {r : RefuseReason} :
    decodeMode opd = .error r ↔ (opd ≠ 1 ∧ opd ≠ 2) ∧ r = .badMode := by
  by_cases h1 : opd = 1
  · simp [decodeMode, h1]
  · by_cases h2 : opd = 2 <;> simp_all [decodeMode, eq_comm (a := r)]

/-- The refusals of the decoder, in the order of its checks (R65). -/
theorem decodeWord_eq_error_iff {w : CommandWord} {r : RefuseReason} :
    decodeWord w = .error r ↔
      ((opField w ≠ 1 ∧ opField w ≠ 2 ∧ opField w ≠ 3 ∧ opField w ≠ 4) ∧ r = .reservedOpcode) ∨
      ((opField w = 1 ∨ opField w = 2 ∨ opField w = 3 ∨ opField w = 4) ∧ rsvField w ≠ 0 ∧ r = .reservedBits) ∨
      ((opField w = 1 ∨ opField w = 4) ∧ rsvField w = 0 ∧ opdField w ≠ 0 ∧ r = .reservedOperand) ∨
      (opField w = 3 ∧ rsvField w = 0 ∧ (opdField w ≠ 1 ∧ opdField w ≠ 2) ∧ r = .badMode) := by
  unfold decodeWord
  by_cases h1 : opField w = 1
  · simp [h1, checkReserved_eq_error_iff, checkNoOperand_eq_error_iff]
  · by_cases h2 : opField w = 2
    · simp [h2, checkReserved_eq_error_iff]
    · by_cases h3 : opField w = 3
      · simp [h3, checkReserved_eq_error_iff, decodeMode_eq_error_iff]
      · by_cases h4 : opField w = 4
        · simp [h4, checkReserved_eq_error_iff, checkNoOperand_eq_error_iff]
        · simp_all [eq_comm (a := r)]

theorem opField_toNat (w : CommandWord) : (opField w).toNat = w.toNat / 2 ^ 28 := by
  have hWord := w.isLt
  rw [opField, BitVec.extractLsb'_toNat, Nat.shiftRight_eq_div_pow]
  omega

theorem rsvField_toNat (w : CommandWord) : (rsvField w).toNat = w.toNat / 2 ^ 16 % 2 ^ 12 := by
  rw [rsvField, BitVec.extractLsb'_toNat, Nat.shiftRight_eq_div_pow]

theorem opdField_toNat (w : CommandWord) : (opdField w).toNat = w.toNat % 2 ^ 16 := by
  rw [opdField, BitVec.extractLsb'_toNat, Nat.shiftRight_eq_div_pow, pow_zero, Nat.div_one]

/-- Settles O5: the refusals of the decoder, its fields read as numbers. -/
theorem refusalReasonsInOrder : Obligations.RefusalReasonsInOrder := by
  intro w
  dsimp only
  simp only [← opField_toNat, ← rsvField_toNat, ← opdField_toNat, decodeWord_eq_error_iff, ne_eq, ← BitVec.toNat_inj]
  refine ⟨?_, ?_, ?_, ?_, ?_⟩ <;> simp <;> omega

/-- Settles O1: the listed words and codes, by computation. -/
theorem specExampleWordsDecode : Obligations.SpecExampleWordsDecode := by
  unfold Obligations.SpecExampleWordsDecode
  decide

end Sys2Proof
end

section
/-!
SUPPORT. One step of the machine: what each turn runs (R60, R62, R187), and the pieces a step is made of, so that what
every piece keeps every step keeps.
-/

namespace Sys2Proof.Machine

theorem step_of_fetch_quiet {s t : State} (h : fetch s = .quiet t) : step s = .next t := by
  rw [step, h]

theorem step_of_fetch_run {s t : State} {i : Instr} (h : fetch s = .run i t) : step s = exec i t := by
  rw [step, h]

theorem fetch_of_schedule_nil {s : State} (h : s.schedule = []) : fetch s = .quiet s := by
  rw [fetch, h]

theorem fetch_of_schedule_cons {s : State} {t : Turn} {later : List Turn} (h : s.schedule = t :: later) :
    fetch s = fetchMover t.mover (takeTurn t later s) := by
  rw [fetch, h]

theorem fetchMover_host_of_commands_nil {s : State} (h : s.commands = []) : fetchMover .host s = .quiet s := by
  rw [fetchMover, h]

theorem fetchMover_host_of_commands_cons {s : State} {w : CommandWord} {ws : List CommandWord}
    (h : s.commands = w :: ws) : fetchMover .host s = fetchWord w s := by
  rw [fetchMover, h]

theorem fetchWord_of_ok {s : State} {w : CommandWord} {i : Instr} (h : decodeWord w = .ok i) :
    fetchWord w s = .run i (if enabled i s then dropCommand s else s) := by
  rw [fetchWord, h]

theorem fetchWord_of_error {s : State} {w : CommandWord} {r : RefuseReason} (h : decodeWord w = .error r) :
    fetchWord w s = .quiet (if s.ready then refuse r w none (dropCommand s) else s) := by
  rw [fetchWord, h]

theorem fetchEvent_of_some {s : State} {e : EventCode} {i : Instr} (h : decodeEvent e = some i) :
    fetchEvent e s = .run i s := by
  rw [fetchEvent, h]

theorem fetchEvent_of_none {s : State} {e : EventCode} (h : decodeEvent e = none) : fetchEvent e s = .quiet s := by
  rw [fetchEvent, h]

/-- Taking a turn decides no enabling condition. -/
@[simp] theorem enabled_takeTurn (i : Instr) (t : Turn) (later : List Turn) (s : State) :
    enabled i (takeTurn t later s) = enabled i s := by
  cases i <;> rfl

/-- Settles O6: the event is fetched with its turn taken, and what is fetched runs. -/
theorem eventTurnRunsItsStep : Obligations.EventTurnRunsItsStep := fun _ _ _ _ _ hTurn hDecode =>
  step_of_fetch_run ((fetch_of_schedule_cons hTurn).trans (fetchEvent_of_some (decode_event_eq_ok_iff.1 hDecode)))

/-- A host turn with a word on the port fetches that word. -/
theorem fetch_of_host_word {s : State} {d : Draws} {later : List Turn} {w : CommandWord} {ws : List CommandWord}
    (hTurn : s.schedule = { mover := .host, draws := d } :: later) (hWord : s.commands = w :: ws) :
    fetch s = fetchWord w { s with schedule := later, draws := d } :=
  (fetch_of_schedule_cons hTurn).trans (fetchMover_host_of_commands_cons hWord)

/-- Settles O7: the word on the port is fetched; an enabled command leaves the port, and one that is not is held. -/
theorem commandTurnRunsTheWord : Obligations.CommandTurnRunsTheWord := by
  intro s d later w ws i hTurn hWord hDecode
  have hFetch := (fetch_of_host_word hTurn hWord).trans (fetchWord_of_ok (decode_word_eq_ok_iff.1 hDecode))
  have hTaken : enabled i { s with schedule := later, draws := d } = enabled i s :=
    enabled_takeTurn i { mover := .host, draws := d } later s
  rw [hTaken] at hFetch
  refine ⟨fun hEnabled => ?_, fun hHeld => ?_⟩
  · rw [hEnabled] at hFetch
    simpa [dropCommand, hWord] using step_of_fetch_run hFetch
  · rw [hHeld] at hFetch
    exact ⟨step_of_fetch_run hFetch, exec_of_not_enabled (hTaken.trans hHeld)⟩

/-- Settles O8: a word that does not decode is fetched as its refusal once READY is 1, and stays on the port until
then. -/
theorem undecodableWordIsRefused : Obligations.UndecodableWordIsRefused := by
  intro s d later w ws r hTurn hWord hDecode
  have hStep := step_of_fetch_quiet ((fetch_of_host_word hTurn hWord).trans (fetchWord_of_error hDecode))
  have hReady : State.ready { s with schedule := later, draws := d } = s.ready := rfl
  rw [hReady] at hStep
  refine ⟨fun hPhase => ?_, fun hPhase => ?_⟩
  · rw [(ready_eq_true_iff s).2 hPhase] at hStep
    simpa [refuse, dropCommand, hWord] using hStep
  · rwa [(ready_eq_false_iff s).2 hPhase] at hStep

/-- The event codes that name no step (R64). -/
theorem decodeEvent_eq_none {e : EventCode} (h : e = 0 ∨ 5 ≤ e.toNat) : decodeEvent e = none := by
  revert e; decide

/-- Settles O9: each of the three turns fetches nothing to run. -/
theorem quietTurnsChangeNothing : Obligations.QuietTurnsChangeNothing :=
  ⟨fun _ hNone => step_of_fetch_quiet (fetch_of_schedule_nil hNone),
   fun _ _ _ hTurn hPort =>
    step_of_fetch_quiet ((fetch_of_schedule_cons hTurn).trans (fetchMover_host_of_commands_nil hPort)),
   fun _ _ _ _ hTurn hCode =>
    step_of_fetch_quiet ((fetch_of_schedule_cons hTurn).trans (fetchEvent_of_none (decodeEvent_eq_none hCode)))⟩

/-- Settles O10: a power-on turn fetches `powerOn`, which writes the reset values. -/
theorem powerOnTurnResets : Obligations.PowerOnTurnResets := fun _ _ _ hTurn =>
  ⟨_, step_of_fetch_quiet (fetch_of_schedule_cons hTurn),
    rfl, rfl, rfl, rfl, rfl, rfl, rfl, rfl, rfl, rfl, rfl, rfl, rfl, rfl, rfl, rfl, rfl, rfl⟩

/-- Settles O11: a fetch that runs nothing is a next state, and every instruction answers one. -/
theorem everyStepAnswersNext : Obligations.EveryStepAnswersNext := by
  intro s
  cases hFetch : fetch s with
  | quiet t => exact ⟨t, step_of_fetch_quiet hFetch⟩
  | run i t =>
    obtain ⟨u, hExec⟩ := exec_total i t
    exact ⟨u, (step_of_fetch_run hFetch).trans hExec⟩

/-- What one step does (R55): nothing to run, a power cycle, a refused word, an event's instruction or an enabled
command. -/
inductive StepEffect (s : State) : State → Prop where
  /-- No turn to come (R170). -/
  | waits : s.schedule = [] → StepEffect s s
  /-- A turn that changes nothing: nothing issued, a held command, a word in homing, an event that names no step. -/
  | passes {turn : Turn} {later : List Turn} : s.schedule = turn :: later → StepEffect s (takeTurn turn later s)
  /-- R170. -/
  | powers {turn : Turn} {later : List Turn} : s.schedule = turn :: later →
      StepEffect s (powerOn (takeTurn turn later s))
  /-- R140. -/
  | refuses {turn : Turn} {later : List Turn} {w : CommandWord} {ws : List CommandWord} {r : RefuseReason} :
      s.schedule = turn :: later → turn.mover = .host → s.commands = w :: ws → decodeWord w = .error r →
      s.ready = true → StepEffect s (refuse r w none (dropCommand (takeTurn turn later s)))
  /-- R62. -/
  | event {turn : Turn} {later : List Turn} {i : Instr} {t : State} : s.schedule = turn :: later →
      exec i (takeTurn turn later s) = .next t → StepEffect s t
  /-- R60 and R187. -/
  | command {turn : Turn} {later : List Turn} {w : CommandWord} {ws : List CommandWord} {i : Instr} {t : State} :
      s.schedule = turn :: later → turn.mover = .host → s.commands = w :: ws → decodeWord w = .ok i →
      enabled i s = true → exec i (dropCommand (takeTurn turn later s)) = .next t → StepEffect s t

/-- Whatever a step answers is one of its effects. -/
theorem step_effect {s t : State} (hStep : step s = .next t) : StepEffect s t := by
  have hQuiet : ∀ {u : State}, fetch s = .quiet u → u = t := fun hFetch =>
    Host.Outcome.next.inj ((step_of_fetch_quiet hFetch).symm.trans hStep)
  have hRun : ∀ {i : Instr} {u : State}, fetch s = .run i u → exec i u = .next t := fun hFetch =>
    (step_of_fetch_run hFetch).symm.trans hStep
  obtain ⟨hNone, hFetch⟩ | ⟨turn, later, hTurn, hCases⟩ := fetch_cases s
  · exact hQuiet hFetch ▸ .waits hNone
  · obtain ⟨-, hFetch⟩ | ⟨e, -, -, hFetch⟩ | ⟨e, i, -, -, hFetch⟩ | ⟨-, -, hFetch⟩ | ⟨w, ws, r, -, -, -, -, hFetch⟩ |
      ⟨w, ws, r, hMover, hWord, hDecode, hReady, hFetch⟩ | ⟨w, ws, i, hMover, hWord, hDecode, hEnabled, hFetch⟩ |
      ⟨w, ws, i, -, -, -, hHeld, hFetch⟩ := hCases
    · exact hQuiet hFetch ▸ .powers hTurn
    · exact hQuiet hFetch ▸ .passes hTurn
    · exact .event hTurn (hRun hFetch)
    · exact hQuiet hFetch ▸ .passes hTurn
    · exact hQuiet hFetch ▸ .passes hTurn
    · exact hQuiet hFetch ▸ .refuses hTurn hMover hWord hDecode hReady
    · exact .command hTurn hMover hWord hDecode hEnabled (hRun hFetch)
    · have hExec := exec_of_not_enabled ((enabled_takeTurn i turn later s).trans hHeld)
      exact Host.Outcome.next.inj (hExec.symm.trans (hRun hFetch)) ▸ .passes hTurn

/-- No instruction writes the host's side of the port. -/
theorem exec_commands {i : Instr} {s t : State} (h : exec i s = .next t) : t.commands = s.commands := by
  cases exec_effect h <;> rfl

/-- A command that is enabled finds READY = 1 (R38). -/
theorem ready_of_decodeWord_of_enabled {w : CommandWord} {i : Instr} {s : State} (hDecode : decodeWord w = .ok i)
    (hEnabled : enabled i s = true) : s.ready = true := by
  obtain ⟨-, hFields⟩ := decodeWord_ok_cases hDecode
  rcases hFields with ⟨-, -, rfl⟩ | ⟨-, rfl⟩ | ⟨-, -, rfl⟩ | ⟨-, -, rfl⟩ | ⟨-, -, rfl⟩
  · exact (ready_eq_true_iff_phase s).2 (((initEnabled_eq_true_iff s).1 hEnabled).imp_right .inl)
  all_goals exact hEnabled

/-- Settles O12: of the effects of a step only an enabled command and a refused word take the word from the port. -/
theorem noCommandIsLost : Obligations.NoCommandIsLost := by
  intro s t hStep
  cases step_effect hStep with
  | waits _ => exact .inl rfl
  | passes _ => exact .inl rfl
  | powers _ => exact .inl rfl
  | event _ hExec =>
    have hCommands := exec_commands hExec
    exact .inl hCommands
  | @refuses turn later w ws r hTurn hMover hWord hDecode hReady =>
    obtain ⟨hRight, hLeft⟩ := (ready_eq_true_iff s).1 hReady
    exact .inr ⟨w, turn.draws, later, by simp [hWord], by rw [hTurn, ← hMover], hRight, hLeft,
      .inr ⟨r, hDecode, rfl, rfl⟩⟩
  | @command turn later w ws i _ hTurn hMover hWord hDecode hEnabled hExec =>
    have hCommands : t.commands = ws := by simpa [hWord] using exec_commands hExec
    obtain ⟨hRight, hLeft⟩ := (ready_eq_true_iff s).1 (ready_of_decodeWord_of_enabled hDecode hEnabled)
    refine .inr ⟨w, turn.draws, later, by rw [hCommands, hWord], by rw [hTurn, ← hMover], hRight, hLeft,
      .inl ⟨i, hDecode, hEnabled, ?_⟩⟩
    simpa [hCommands, dropCommand, takeTurn, hWord] using hExec

/-- Each piece a step is made of keeps `P`. -/
structure KeptByPieces (P : State → Prop) : Prop where
  takeTurn : ∀ (t : Turn) (later : List Turn) (s : State), P s → P (takeTurn t later s)
  dropCommand : ∀ s : State, P s → P (dropCommand s)
  refuse : ∀ (r : RefuseReason) (w : CommandWord) (s : State), P s → P (refuse r w none s)
  powerOn : ∀ s : State, P s → P (powerOn s)
  exec : ∀ (i : Instr) (s t : State), P s → exec i s = .next t → P t

/-- What every piece keeps every step keeps. -/
theorem KeptByPieces.step {P : State → Prop} (h : KeptByPieces P) {s t : State} (hs : P s) (hStep : step s = .next t) :
    P t := by
  have hTaken := fun turn later => h.takeTurn turn later s hs
  cases step_effect hStep with
  | waits _ => exact hs
  | passes _ => exact hTaken _ _
  | powers _ => exact h.powerOn _ (hTaken _ _)
  | refuses _ _ _ _ _ => exact h.refuse _ _ _ (h.dropCommand _ (hTaken _ _))
  | event _ hExec => exact h.exec _ _ t (hTaken _ _) hExec
  | command _ _ _ _ _ hExec => exact h.exec _ _ t (h.dropCommand _ (hTaken _ _)) hExec

/-- No instruction clears REFUSED (R32). -/
theorem exec_keeps_refused {i : Instr} {s t : State} (hs : s.refused = true) (h : exec i s = .next t) :
    t.refused = true := by
  cases exec_effect h with
  | refused angle _ => rfl
  | _ => exact hs

/-- Settles O55: every piece of a step leaves REFUSED or sets it. -/
theorem refusedMarkIsSticky : Obligations.RefusedMarkIsSticky := fun _ _ hStep hs =>
  KeptByPieces.step (P := fun s => s.refused = true)
    { takeTurn := fun _ _ _ h => h
      dropCommand := fun _ h => h
      refuse := fun _ _ _ _ => rfl
      powerOn := fun _ h => h
      exec := fun _ _ _ => exec_keeps_refused } hs hStep

/-- The constants of the block, as they stand in `s` (R31, R50, R51). -/
def SameConstants (s t : State) : Prop :=
  t.coilTable = s.coilTable ∧ t.stepSpeed = s.stepSpeed ∧ t.portLo = s.portLo

theorem exec_portLo {i : Instr} {s t : State} (h : exec i s = .next t) : t.portLo = s.portLo := by
  obtain ⟨-, hLow⟩ | ⟨-, -, hLow⟩ := exec_port_cases h <;> exact hLow

theorem exec_sameConstants {i : Instr} {s t : State} (h : exec i s = .next t) : SameConstants s t :=
  ⟨by cases exec_effect h <;> rfl, by cases exec_effect h <;> rfl, exec_portLo h⟩

theorem SameConstants.trans {s t u : State} (hst : SameConstants s t) (htu : SameConstants t u) :
    SameConstants s u := by
  obtain ⟨hTable, hSpeed, hLow⟩ := hst
  obtain ⟨hTable', hSpeed', hLow'⟩ := htu
  exact ⟨hTable'.trans hTable, hSpeed'.trans hSpeed, hLow'.trans hLow⟩

/-- Settles O56: no piece of a step writes a constant. -/
theorem constantsNeverWritten : Obligations.ConstantsNeverWritten := fun s _ hStep =>
  KeptByPieces.step (P := SameConstants s)
    { takeTurn := fun _ _ _ h => h
      dropCommand := fun _ h => h
      refuse := fun _ _ _ h => h
      powerOn := fun _ h => h
      exec := fun _ _ _ h hExec => h.trans (exec_sameConstants hExec) } ⟨rfl, rfl, rfl⟩ hStep

/-- TC has a value while IE is 1: the only instruction that sets IE arms the channel (R35, R105). -/
theorem exec_keeps_armed {i : Instr} {s t : State} (hs : Armed s) (h : exec i s = .next t) : Armed t := by
  cases exec_effect h with
  | moves angle _ => exact fun _ => rfl
  | stops _ _ => exact fun hIe => absurd hIe Bool.false_ne_true
  | _ => exact hs

/-- Settles O52: every piece of a step keeps the channel armed while its interrupt is enabled. -/
theorem channelArmedKeptByStep : Obligations.ChannelArmedKeptByStep := fun _ _ hs hStep =>
  KeptByPieces.step (P := Armed)
    { takeTurn := fun _ _ _ h => h
      dropCommand := fun _ h => h
      refuse := fun _ _ _ h => h
      powerOn := fun _ _ hIe => absurd hIe Bool.false_ne_true
      exec := fun _ _ _ => exec_keeps_armed } hs hStep

end Sys2Proof.Machine
end

section
/-!
SUPPORT. The invariants of R43: each effect of an instruction keeps them, so every piece of a step does, and so does
every run from power-on.
-/

namespace Sys2Proof.Machine

theorem sint_directionFor_legal {mode : ModeBits} (h : mode = Config.half ∨ mode = Config.full) (diff : Int) :
    sint (directionFor mode diff) ∈ [-2, -1, 1, 2] := by
  rw [directionFor_eq]
  rcases h with rfl | rfl <;> split <;> decide

/-- A turned unit direction is a unit direction (R95). -/
theorem sint_neg_unit {dir : Direction} (h : sint dir ∈ [-1, 1]) : sint (wrapS 3 (-sint dir)) ∈ [-1, 1] := by
  revert h; revert dir; decide

theorem unit_direction_legal {dir : Direction} (h : sint dir ∈ [-1, 1]) : sint dir ∈ [-2, -1, 1, 2] := by
  revert h; revert dir; decide

theorem BlockInv.settle_eq_false {s : State} (h : BlockInv s) (hHoming : s.phase ≠ .homeR ∧ s.phase ≠ .homeL) :
    s.settle = false := by
  refine Bool.eq_false_of_not_eq_true fun hSettle => ?_
  obtain hR | hL := (homing_eq_true_iff s).1 (h.settling hSettle)
  · exact hHoming.1 hR
  · exact hHoming.2 hL

theorem BlockInv.busy_eq_false {s : State} (h : BlockInv s) (hPhase : s.phase ≠ .stepping) : s.busy = false :=
  Bool.eq_false_of_not_eq_true (mt h.busyIffStepping.1 hPhase)

theorem BlockInv.ie_eq_false {s : State} (h : BlockInv s) (hPhase : s.phase ≠ .stepping) : s.ie = false :=
  Bool.eq_false_of_not_eq_true (mt h.ieIffStepping.1 hPhase)

theorem blockInv_stepCoil {s : State} (h : BlockInv s) : BlockInv (stepCoil s) := by
  rw [stepCoil_eq]
  exact { h with portShowsIndex := fun _ => rfl }

theorem blockInv_startHoming {s : State} (h : BlockInv s) (hPhase : s.phase = .uninit ∨ s.phase = .idle) :
    BlockInv (startHoming s) := by
  have hStill : s.phase ≠ .stepping := by rcases hPhase with h | h <;> simp [h]
  have hDir : sint (wrapS 3 (-1)) ∈ [-1, 1] := by decide
  exact
    { busyIffStepping := by simp [startHoming, h.busy_eq_false hStill]
      ieIffStepping := by simp [startHoming, h.ie_eq_false hStill]
      configured := by simp [startHoming]
      settling := by simp [startHoming]
      modeLegal := fun _ => .inl rfl
      dirLegal := fun _ => unit_direction_legal hDir
      homingDir := fun _ => hDir
      portShowsIndex := h.portShowsIndex }

theorem blockInv_startMotion {s : State} (h : BlockInv s) (angle : Int)
    (hPhase : s.phase = .idle ∨ s.phase = .stepping) : BlockInv (startMotion (aim angle s)) := by
  have hHomed : s.phase ≠ .uninit := by rcases hPhase with h | h <;> simp [h]
  have hNotHoming : s.phase ≠ .homeR ∧ s.phase ≠ .homeL := by rcases hPhase with h | h <;> simp [h]
  exact
    { busyIffStepping := by simp [startMotion]
      ieIffStepping := by simp [startMotion]
      configured := by simp [startMotion, aim, h.configured, hHomed]
      settling := by simp [startMotion, aim, h.settle_eq_false hNotHoming]
      modeLegal := fun _ => h.modeLegal hHomed
      dirLegal := fun _ => sint_directionFor_legal (h.modeLegal hHomed) _
      homingDir := fun hHoming => absurd hHoming (by simp [startMotion, State.homing])
      portShowsIndex := h.portShowsIndex }

theorem blockInv_tickStop {s : State} (h : BlockInv s) (hIe : s.ie = true) :
    BlockInv (tickStop (consumePending s)) := by
  have hPhase := h.ieIffStepping.1 hIe
  have hHomed : s.phase ≠ .uninit := by simp [hPhase]
  exact
    { busyIffStepping := by simp [tickStop]
      ieIffStepping := by simp [tickStop]
      configured := by simp [tickStop, h.configured, hHomed]
      settling := by simp [tickStop, h.settle_eq_false (by simp [hPhase])]
      modeLegal := fun _ => h.modeLegal hHomed
      dirLegal := fun _ => h.dirLegal hHomed
      homingDir := fun hHoming => absurd hHoming (by simp [tickStop, State.homing])
      portShowsIndex := h.portShowsIndex }

theorem blockInv_reachRight {s : State} (h : BlockInv s) (hPhase : s.phase = .homeR) : BlockInv (reachRight s) := by
  have hStill : s.phase ≠ .stepping := by simp [hPhase]
  have hDir := sint_neg_unit (h.homingDir ((homing_eq_true_iff s).2 (.inl hPhase)))
  exact
    { busyIffStepping := by simp [reachRight, h.busy_eq_false hStill]
      ieIffStepping := by simp [reachRight, h.ie_eq_false hStill]
      configured := by simp [reachRight, h.configured, hPhase]
      settling := fun _ => rfl
      modeLegal := fun _ => h.modeLegal (by simp [hPhase])
      dirLegal := fun _ => unit_direction_legal hDir
      homingDir := fun _ => hDir
      portShowsIndex := h.portShowsIndex }

theorem blockInv_reachLeft {s : State} (h : BlockInv s) (hSettle : s.settle = false) (hPhase : s.phase = .homeL) :
    BlockInv (reachLeft s) := by
  have hStill : s.phase ≠ .stepping := by simp [hPhase]
  have hHomed : s.phase ≠ .uninit := by simp [hPhase]
  exact
    { busyIffStepping := by simp [reachLeft, h.busy_eq_false hStill]
      ieIffStepping := by simp [reachLeft, h.ie_eq_false hStill]
      configured := by simp [reachLeft, h.configured, hPhase]
      settling := by simp [reachLeft, hSettle]
      modeLegal := fun _ => h.modeLegal hHomed
      dirLegal := fun _ => h.dirLegal hHomed
      homingDir := fun hHoming => absurd hHoming (by simp [reachLeft, State.homing])
      portShowsIndex := h.portShowsIndex }

/-- Every instruction keeps the invariants. -/
theorem exec_keeps_blockInv {i : Instr} {s t : State} (h : BlockInv s) (hExec : exec i s = .next t) : BlockInv t := by
  cases exec_effect hExec with
  | held _ => exact h
  | starts hPhase => exact blockInv_startHoming h hPhase
  | refused _ _ => exact { h with }
  | moves angle hPhase => exact blockInv_startMotion h angle hPhase
  | setsHalf _ => exact { h with modeLegal := fun _ => .inl rfl }
  | setsFull _ => exact { h with modeLegal := fun _ => .inr rfl }
  | responds _ => exact { h with }
  | marks => exact { h with }
  | stops hEnabled _ => exact blockInv_tickStop h ((tickEnabled_eq_true_iff s).1 hEnabled).1
  | steps _ _ => exact { blockInv_stepCoil (s := consumePending s) { h with } with }
  | reachesRight _ hPhase _ => exact blockInv_reachRight h hPhase
  | reachesLeft hSettle hPhase _ => exact blockInv_reachLeft h hSettle hPhase
  | homes _ hPhase _ =>
    exact { blockInv_stepCoil h with settling := fun _ => (homing_eq_true_iff s).2 hPhase }
  | settles _ => exact { h with settling := fun hSettle => absurd hSettle Bool.false_ne_true }

theorem blockInv_powerOn (s : State) : BlockInv (powerOn s) where
  busyIffStepping := by simp
  ieIffStepping := by simp
  configured := by simp
  settling := by simp
  modeLegal := by simp
  dirLegal := by simp
  homingDir := fun hHoming => absurd hHoming (by simp [State.homing])
  portShowsIndex := by simp

/-- Settles O50: every piece of a step keeps the invariants. -/
theorem invariantKeptByStep : Obligations.InvariantKeptByStep := fun _ _ hs hStep =>
  KeptByPieces.step (P := BlockInv)
    { takeTurn := fun _ _ _ h => { h with }
      dropCommand := fun _ h => { h with }
      refuse := fun _ _ _ h => { h with }
      powerOn := fun s _ => blockInv_powerOn s
      exec := fun _ _ _ => exec_keeps_blockInv } hs hStep

/-- Settles O49: the reset state has the block's fields of any state after power-on. -/
theorem invariantAtReset : Obligations.InvariantAtReset :=
  { blockInv_powerOn State.reset with portShowsIndex := fun hValue => absurd hValue Bool.false_ne_true }

/-- Settles O51: the invariants hold at reset, what comes from outside touches no field of the block, and every step
keeps them. -/
theorem invariantOfReachableStates : Obligations.InvariantOfReachableStates := by
  intro s hReachable
  induction hReachable with
  | reset => exact invariantAtReset
  | offered _ _ _ h => exact { h with }
  | stepped _ hStep h => exact invariantKeptByStep _ _ h hStep

theorem one_le_stepSpeed : 1 ≤ Config.stepSpeed.toNat := by
  have hBound := Config.stepSpeedLessOne.isLt
  rw [Config.stepSpeed, BitVec.toNat_ofNat]
  omega

/-- Settles O53: the fields of the reset state, and the bound of STEP_SPEED that its type keeps. -/
theorem resetState : Obligations.ResetState :=
  ⟨rfl, rfl, rfl, rfl, rfl, rfl, rfl, rfl, rfl, rfl, rfl, rfl, rfl, rfl, rfl, rfl, one_le_stepSpeed,
    fun k => by simp [State.reset]⟩

/-- Settles O54: the registers each effect writes. -/
theorem writersOfEachRegister : Obligations.WritersOfEachRegister := by
  intro i s t hExec
  cases exec_effect hExec with
  | held _ => simp
  | starts _ => simp [startHoming]
  | refused _ hPhase => simp [hPhase]
  | moves _ _ => simp [startMotion, aim]
  | setsHalf _ => simp
  | setsFull _ => simp
  | responds _ => simp
  | marks => simp
  | stops _ _ => simp [tickStop]
  | steps _ _ => simp [tickStep, stepCoil_eq]
  | reachesRight _ _ _ => simp [reachRight]
  | reachesLeft _ _ _ => simp [reachLeft]
  | homes _ _ _ => simp [homingStep, stepCoil_eq]
  | settles _ => simp

end Sys2Proof.Machine
end

section
/-!
SUPPORT. The coil sequencer (R80 to R87): what k STEPs do, in closed form.
-/

namespace Sys2Proof.Machine

/-- Settles O15: all that STEP writes, and its 16-bit sum read as signed. -/
theorem positionMovesByDirection : Obligations.PositionMovesByDirection := by
  intro s
  have hDir : (s.dir.signExtend 16).toInt = s.dir.toInt := BitVec.toInt_signExtend_of_le (by decide)
  rw [stepCoil_eq]
  refine ⟨?_, rfl⟩
  rw [BitVec.toInt_add, hDir]

/-- All that `k` STEPs do, in closed form (R86): the index and the position move by `k` directions. -/
theorem iterate_stepCoil_eq (k : Nat) (s : State) :
    stepCoil^[k] s =
      { s with
        idx := BitVec.ofInt 3 (s.idx.toNat + k * s.dir.toInt)
        portHi := if k = 0 then s.portHi else s.patternAt (BitVec.ofInt 3 (s.idx.toNat + k * s.dir.toInt))
        portHiHasValue := s.portHiHasValue || decide (0 < k)
        pos := BitVec.ofInt 16 (s.pos.toInt + k * s.dir.toInt) } := by
  induction k with
  | zero => simp
  | succ k ih =>
    have hIdx : BitVec.ofInt 3 (s.idx.toNat + k * s.dir.toInt) + s.dir =
        BitVec.ofInt 3 (s.idx.toNat + (k + 1 : Nat) * s.dir.toInt) := by
      rw [Nat.cast_succ, Int.add_mul, one_mul, ← Int.add_assoc, BitVec.ofInt_add _ s.dir.toInt, BitVec.ofInt_toInt]
    have hPos : BitVec.ofInt 16 (s.pos.toInt + k * s.dir.toInt) + s.dir.signExtend 16 =
        BitVec.ofInt 16 (s.pos.toInt + (k + 1 : Nat) * s.dir.toInt) := by
      rw [Nat.cast_succ, Int.add_mul, one_mul, ← Int.add_assoc, BitVec.ofInt_add _ s.dir.toInt]
      rfl
    rw [Function.iterate_succ_apply', ih, stepCoil_eq]
    simp only [hIdx, hPos]
    simp [State.patternAt]

/-- Settles O17: the closed form of `k` STEPs. -/
theorem repeatedStepsAreLinear : Obligations.RepeatedStepsAreLinear := by
  intro k s
  rw [iterate_stepCoil_eq]
  refine ⟨rfl, rfl, fun hk => ?_, rfl⟩
  have hNonzero : k ≠ 0 := by omega
  simp [hNonzero, Nat.pos_of_ne_zero hNonzero]

/-- Settles O18: the closed form moves by an even number, and both moduli are even. -/
theorem fullStepKeepsParity : Obligations.FullStepKeepsParity := by
  intro k s hDir
  have hEven : ∃ m : Int, k * s.dir.toInt = 2 * m := by
    rcases hDir with h | h
    · exact ⟨k, by rw [h]; omega⟩
    · exact ⟨-k, by rw [h]; omega⟩
  obtain ⟨m, hMove⟩ := hEven
  rw [iterate_stepCoil_eq, hMove]
  refine ⟨?_, ?_⟩
  · rw [BitVec.toNat_ofInt]
    omega
  · rw [BitVec.toInt_ofInt, Int.bmod_def]
    split <;> omega

end Sys2Proof.Machine
end

section
/-!
SUPPORT. What each instruction does, in plain bit-vector and integer arithmetic (R90 to R97, R105 to R112, R120, R121),
and that one which is not enabled is held.
-/

namespace Sys2Proof.Machine

theorem initEnabled_eq_false_iff (s : State) :
    s.initEnabled = false ↔ s.phase = .homeR ∨ s.phase = .homeL ∨ s.phase = .stepping := by
  rw [← Bool.not_eq_true, initEnabled_eq_true_iff]
  cases s.phase <;> decide

theorem tickEnabled_eq_false_iff (s : State) : s.tickEnabled = false ↔ s.ie = false ∨ s.pend = false :=
  Bool.and_eq_false_iff

theorem scanEnabled_eq_false_iff (s : State) :
    s.scanEnabled = false ↔ s.phase ≠ .homeR ∧ s.phase ≠ .homeL ∨ s.settle = true := by
  rw [← Bool.not_eq_true, scanEnabled_eq_true_iff, not_and_or, not_or, Bool.not_eq_false]

/-- Settles O20: in each case the enabling condition is false. -/
theorem disabledStepsAreHeld : Obligations.DisabledStepsAreHeld := by
  intro s
  refine ⟨fun h => exec_of_not_enabled ((initEnabled_eq_false_iff s).2 h), fun h => ?_,
    fun h => exec_of_not_enabled ((tickEnabled_eq_false_iff s).2 h),
    fun h => exec_of_not_enabled ((scanEnabled_eq_false_iff s).2 h), fun h => exec_of_not_enabled h⟩
  have hBlocked := (ready_eq_false_iff s).2 h
  exact ⟨fun _ => exec_of_not_enabled hBlocked, exec_of_not_enabled hBlocked, exec_of_not_enabled hBlocked,
    exec_of_not_enabled hBlocked⟩

/-- Settles O19: INIT is enabled there, and `-1` in 3 bits is its direction. -/
theorem initStartsHoming : Obligations.InitStartsHoming := fun _ hPhase => (Effect.starts hPhase).exec_eq

/-- The right switch pressed turns the direction by negation in 3 bits (R93, R95). -/
theorem reachRight_eq (s : State) : reachRight s = { s with pos := 0, dir := -s.dir, phase := .homeL } := by
  rw [reachRight, wrapS_neg_sint]

/-- Settles O21: the four effects of SCAN, and when it is held. -/
theorem scanTestsThenStepsOrLeaves : Obligations.ScanTestsThenStepsOrLeaves :=
  ⟨by decide, fun s =>
    ⟨fun hPhase hSettle hSwitch => reachRight_eq s ▸ (Effect.reachesRight hSettle hPhase hSwitch).exec_eq,
     fun hPhase hSettle hSwitch =>
      (Effect.homes hSettle (.inl hPhase) ((phaseSwitch_of_homeR hPhase).trans hSwitch)).exec_eq,
     fun hPhase hSettle hSwitch => (Effect.reachesLeft hSettle hPhase hSwitch).exec_eq,
     fun hPhase hSettle hSwitch =>
      (Effect.homes hSettle (.inr hPhase) ((phaseSwitch_of_homeL hPhase).trans hSwitch)).exec_eq,
     fun h => exec_of_not_enabled ((scanEnabled_eq_false_iff s).2 h)⟩⟩

theorem scaledTarget_eq (angle : Int) (maxs : Position) :
    scaledTarget angle maxs = (angle.tmod 180 * (maxs.toNat : Int)).tdiv 180 := by
  rw [scaledTarget, foldAngle_eq_tmod]
  rfl

/-- All that an accepted SET_ANGLE does (R105). -/
theorem startMotion_aim_eq (angle : Int) (s : State) :
    startMotion (aim angle s) =
      { s with
        tgt := wrapS 16 (scaledTarget angle s.maxs)
        dir := directionFor s.mode (sint (wrapS 16 (scaledTarget angle s.maxs)) - sint s.pos)
        tc := s.draws.tcnt + s.stepSpeed
        tcHasValue := true
        pend := false
        ie := true
        busy := true
        phase := .stepping } := by
  rw [← addTicks_eq_add]
  rfl

/-- Settles O28: SET_ANGLE moves, with its target and direction in integer and bit-vector arithmetic. -/
theorem setAngleStartsMotion : Obligations.SetAngleStartsMotion := by
  intro angle s hPhase
  dsimp only
  rw [(Effect.moves angle hPhase).exec_eq, startMotion_aim_eq, directionFor_eq, scaledTarget_eq]
  rfl

/-- A word is its operation code's word with the operand in the low half (R61). -/
theorem wordOf_eq_or (op : BitVec 4) (opd : BitVec 16) : wordOf op opd = wordOf op 0 ||| opd.setWidth 32 := by
  apply BitVec.eq_of_getLsbD_eq
  intro k hk
  simp only [wordOf, BitVec.getLsbD_or, BitVec.getLsbD_append, BitVec.getLsbD_setWidth]
  by_cases hLow : k < 16
  · simp [hLow, hk]
  · simp [hLow, BitVec.getLsbD_of_ge opd k (Nat.le_of_not_lt hLow)]

/-- Settles O29: SET_ANGLE is refused, and the word recorded is its encoding. -/
theorem setAngleBeforeInitIsRefused : Obligations.SetAngleBeforeInitIsRefused := by
  intro angle s hPhase
  rw [(Effect.refused angle hPhase).exec_eq, setAngleWord, wordOf_eq_or]
  rfl

/-- Settles O31: the fold is `Int.tmod` by 180, whose bounds, congruence and sign the library has. -/
theorem angleFoldIsTruncatingRemainder : Obligations.AngleFoldIsTruncatingRemainder := by
  refine ⟨fun angle => ?_, by decide⟩
  rw [foldAngle_eq_tmod]
  have hLow := Int.lt_tmod_of_pos angle (b := 180) (by decide)
  have hHigh := Int.tmod_lt_of_pos angle (b := 180) (by decide)
  refine ⟨by omega, by omega, Int.dvd_self_sub_tmod, Int.tmod_nonneg 180, fun h => ?_⟩
  have hTurned := Int.tmod_nonneg 180 (Int.neg_nonneg_of_nonpos h)
  rw [Int.neg_tmod] at hTurned
  omega

/-- The target of an intended angle is the exact quotient, wrapped to 16 bits (R108). -/
theorem tgt_toInt_of_intended {angle : Int} (h0 : 0 ≤ angle) (h1 : angle ≤ 179) (s : State) :
    (startMotion (aim angle s)).tgt.toInt = Int.bmod (angle * s.maxs.toNat / 180) 65536 := by
  have hFold : foldAngle angle = angle := foldAngle_of_lt h0 (by omega)
  rw [startMotion_aim_eq, wrapS, BitVec.toInt_ofInt, scaledTarget_of_nonneg _ (by omega), hFold]

/-- The scaled target of an intended angle lies within the travel range. -/
theorem scaled_bounds {angle : Int} (h0 : 0 ≤ angle) (h1 : angle ≤ 179) (maxs : Position) :
    0 ≤ angle * maxs.toNat / 180 ∧ angle * maxs.toNat / 180 ≤ (maxs.toNat : Int) := by
  have hLow : 0 ≤ angle * (maxs.toNat : Int) := Int.mul_nonneg h0 (Int.natCast_nonneg _)
  have hHigh : angle * (maxs.toNat : Int) ≤ 179 * maxs.toNat := Int.mul_le_mul_of_nonneg_right h1 (Int.natCast_nonneg _)
  omega

/-- Settles O32: a quotient below 32768 is kept by the wrap to 16 bits. -/
theorem targetWithinTravel : Obligations.TargetWithinTravel := by
  intro angle s hPhase h0 h1 hMaxs
  obtain ⟨hLow, hHigh⟩ := scaled_bounds h0 h1 s.maxs
  have hTgt := tgt_toInt_of_intended h0 h1 s
  rw [Int.bmod_eq_of_le (by omega) (by omega)] at hTgt
  exact ⟨_, (Effect.moves angle hPhase).exec_eq, by omega, by omega, hTgt⟩

/-- Settles O33: a quotient from 32768 on loses 65536 by the wrap to 16 bits. -/
theorem wideTravelWrapsTarget : Obligations.WideTravelWrapsTarget := by
  intro angle s hPhase h0 h1 hWide
  obtain ⟨-, hHigh⟩ := scaled_bounds h0 h1 s.maxs
  have hMaxs := s.maxs.isLt
  have hTgt := tgt_toInt_of_intended h0 h1 s
  rw [Int.bmod_def, if_neg (by omega)] at hTgt
  exact ⟨_, (Effect.moves angle hPhase).exec_eq, by omega, by omega⟩

/-- A legal mode's direction, read as signed, is plus or minus the mode (R109, D11). -/
theorem toInt_directionFor {mode : ModeBits} (h : mode = 1 ∨ mode = 2) (diff : Int) :
    (directionFor mode diff).toInt = if diff > 0 then (mode.toNat : Int) else -(mode.toNat : Int) := by
  rw [directionFor_eq]
  rcases h with rfl | rfl <;> split <;> decide

/-- The direction a SET_ANGLE sets follows the exact difference between target and position (R109). -/
theorem startMotion_aim_dir (angle : Int) (s : State) :
    (startMotion (aim angle s)).dir =
      directionFor s.mode ((startMotion (aim angle s)).tgt.toInt - s.pos.toInt) := rfl

/-- Settles O34: the sign of the exact difference decides. -/
theorem directionFollowsExactDifference : Obligations.DirectionFollowsExactDifference := by
  intro angle s hPhase hMode
  refine ⟨_, (Effect.moves angle hPhase).exec_eq, fun hAhead => ?_, fun hBehind => ?_⟩
  · rw [startMotion_aim_dir, toInt_directionFor hMode, if_pos (by omega)]
  · rw [startMotion_aim_dir, toInt_directionFor hMode, if_neg (by omega)]

theorem decodeWord_mode (opd : BitVec 16) : decodeWord (0x30000000 ||| opd.setWidth 32) = decodeMode opd := by
  have hWord : wordOf 0x3 opd = 0x30000000 ||| opd.setWidth 32 := wordOf_eq_or 0x3 opd
  rw [← hWord]
  simp [decodeWord, checkReserved]

/-- Settles O35: SET_STEP_MODE writes MODE outside homing, is held in it, and its operand decodes by `decodeMode`. -/
theorem setStepModeWritesMode : Obligations.SetStepModeWritesMode := by
  refine ⟨fun s hRight hLeft => ?_, fun s hPhase => ?_, by decide, by decide, fun opd h1 h2 => ?_⟩
  · have hReady := (ready_eq_true_iff s).2 ⟨hRight, hLeft⟩
    exact ⟨(Effect.setsHalf hReady).exec_eq, (Effect.setsFull hReady).exec_eq⟩
  · have hBlocked := (ready_eq_false_iff s).2 hPhase
    exact ⟨exec_of_not_enabled hBlocked, exec_of_not_enabled hBlocked⟩
  · rw [decodeWord_mode, decodeMode, if_neg h1, if_neg h2]

theorem exec_isBusy_of_ready {s : State} (hReady : s.ready = true) :
    exec .isBusy s = .next { s with responses := (if s.busy then 1 else 0) :: s.responses } := by
  rw [(Effect.responds hReady).exec_eq, responseWord_eq]
  rfl

theorem decodeWord_isBusy_of_operand {opd : BitVec 16} (h : opd ≠ 0) :
    decodeWord (0x40000000 ||| opd.setWidth 32) = .error .reservedOperand := by
  have hWord : wordOf 0x4 opd = 0x40000000 ||| opd.setWidth 32 := wordOf_eq_or 0x4 opd
  rw [← hWord, decodeWord_eq_error_iff]
  simpa using h

/-- Settles O37: IS_BUSY's word is BUSY, which the invariants tie to STEPPING. -/
theorem isBusyAnswersTheFlag : Obligations.IsBusyAnswersTheFlag := by
  refine ⟨fun s hRight hLeft => exec_isBusy_of_ready ((ready_eq_true_iff s).2 ⟨hRight, hLeft⟩),
    fun s hPhase => exec_of_not_enabled ((ready_eq_false_iff s).2 hPhase), fun s hInv hRight hLeft => ?_, by decide,
    fun _ hOpd => decodeWord_isBusy_of_operand hOpd⟩
  rw [exec_isBusy_of_ready ((ready_eq_true_iff s).2 ⟨hRight, hLeft⟩)]
  simp only [hInv.busyIffStepping]

/-- Settles O38: MATCH has one effect. -/
theorem matchSetsPending : Obligations.MatchSetsPending := fun _ => Effect.marks.exec_eq

/-- All that a TICK away from the target does (R121, R122). -/
theorem tickStep_consumePending_eq (s : State) :
    tickStep (consumePending s) =
      { s with
        pend := false
        idx := s.idx + s.dir
        portHi := s.patternAt (s.idx + s.dir)
        portHiHasValue := true
        pos := s.pos + s.dir.signExtend 16
        tc := s.tc + s.stepSpeed } := by
  rw [tickStep, stepCoil_eq, advanceChannelCompareBy, addTicks_eq_add]
  rfl

/-- Settles O39: an enabled TICK away from the target steps. -/
theorem tickStepsAndRearms : Obligations.TickStepsAndRearms := fun s hIe hPend hPos =>
  tickStep_consumePending_eq s ▸ (Effect.steps ((tickEnabled_eq_true_iff s).2 ⟨hIe, hPend⟩) hPos).exec_eq

/-- Any other MODE, all else as it was. -/
def State.withMode (mode : ModeBits) (s : State) : State := { s with mode := mode }

/-- The step `f` does not read MODE: it writes MODE blindly or leaves it, and all else comes out the same (R27). -/
def ModeUnread (f : State → Result) (mode : ModeBits) (s : State) : Prop :=
  ∃ t mode', f s = .next t ∧ f (s.withMode mode) = .next (t.withMode mode') ∧
    (mode' = t.mode ∨ t.mode = s.mode ∧ mode' = mode)

theorem modeUnread_of_ignores {f : State → Result} {mode : ModeBits} {s : State}
    (h : Ignores f (State.withMode mode) s) (hKept : ∀ t, f s = .next t → t.mode = s.mode) : ModeUnread f mode s := by
  obtain ⟨t, hNext, hOther⟩ := h
  exact ⟨t, mode, hNext, hOther, .inr ⟨hKept t hNext, rfl⟩⟩

/-- A guarded step whose effect overwrites MODE. -/
theorem modeUnread_of_overwrites {c : State → Bool} {run : State → State} {mode : ModeBits} {s : State}
    (hc : c (s.withMode mode) = c s) (hRun : run (s.withMode mode) = run s) :
    ModeUnread (fun s => if c s then .next (run s) else held s) mode s := by
  by_cases h : c s = true
  · exact ⟨run s, (run s).mode, if_pos h, by simp only [hc, h, hRun, if_true]; rfl, .inl rfl⟩
  · exact ⟨s, mode, if_neg h, by simp only [hc, h]; rfl, .inr ⟨rfl, rfl⟩⟩

theorem execTick_ignores_mode (mode : ModeBits) (s : State) : Ignores execTick (State.withMode mode) s :=
  ignores_guarded rfl (ignores_next (by rw [apply_ite (State.withMode mode)]; rfl))

theorem scanOnce_withMode (mode : ModeBits) (s : State) : scanOnce (s.withMode mode) = (scanOnce s).withMode mode := by
  simp only [scanOnce, apply_ite (State.withMode mode)]
  rfl

/-- Which instructions leave MODE alone (R27). -/
theorem exec_keeps_mode {i : Instr} {s t : State} (h : exec i s = .next t)
    (hi : ¬ (i = .init ∨ i = .setStepModeHalf ∨ i = .setStepModeFull)) : t.mode = s.mode := by
  obtain ⟨-, -, -, -, -, hMode, -⟩ := writersOfEachRegister i s t h
  exact not_not.1 (mt hMode hi)

/-- SET_ANGLE aside, no instruction reads MODE. -/
theorem exec_modeUnread {i : Instr} (hi : ∀ angle, i ≠ .setAngle angle) (mode : ModeBits) (s : State) :
    ModeUnread (exec i) mode s := by
  cases i with
  | setAngle angle => exact absurd rfl (hi angle)
  | init => exact modeUnread_of_overwrites (c := State.initEnabled) (run := startHoming) rfl rfl
  | setStepModeHalf => exact modeUnread_of_overwrites (c := State.ready) (run := State.withMode Config.half) rfl rfl
  | setStepModeFull => exact modeUnread_of_overwrites (c := State.ready) (run := State.withMode Config.full) rfl rfl
  | isBusy =>
    exact modeUnread_of_ignores (ignores_guarded rfl (ignores_next rfl)) fun _ h => exec_keeps_mode h (by simp)
  | compareMatch => exact modeUnread_of_ignores (ignores_next rfl) fun _ h => exec_keeps_mode h (by simp)
  | tick => exact modeUnread_of_ignores (execTick_ignores_mode mode s) fun _ h => exec_keeps_mode h (by simp)
  | scan =>
    exact modeUnread_of_ignores (ignores_guarded rfl (ignores_next (scanOnce_withMode mode s)))
      fun _ h => exec_keeps_mode h (by simp)
  | settleDone =>
    exact modeUnread_of_ignores (ignores_guarded rfl (ignores_next rfl)) fun _ h => exec_keeps_mode h (by simp)

/-- Settles O36: INIT and SET_STEP_MODE overwrite MODE, and the other instructions ignore it. -/
theorem modeReadOnlyBySetAngle : Obligations.ModeReadOnlyBySetAngle := fun _ s mode hi => exec_modeUnread hi mode s

end Sys2Proof.Machine
end

section
/-!
SUPPORT. The phases (R92, R97, R103, R124, R126): which steps leave homing and STEPPING, row by row of the motion state
machine.
-/

namespace Sys2Proof.Machine

theorem Effect.leads {i : Instr} {s t : State} {P : State → Prop} (h : Effect s i t) (hP : P t) : Leads i s P :=
  ⟨t, h.exec_eq, hP⟩

/-- While a settle delay runs, no effect of an instruction writes PHASE (R97, R43). -/
theorem exec_keeps_phase_of_settle {i : Instr} {s t : State} (hInv : BlockInv s) (hSettle : s.settle = true)
    (h : exec i s = .next t) : t.phase = s.phase := by
  have hHoming := (homing_eq_true_iff s).1 (hInv.settling hSettle)
  have hStill : s.phase ≠ .stepping := by rcases hHoming with h | h <;> simp [h]
  cases exec_effect h with
  | starts hPhase => rcases hHoming with h | h <;> simp [h] at hPhase
  | moves _ hPhase => rcases hHoming with h | h <;> simp [h] at hPhase
  | stops hEnabled _ => exact absurd (hInv.ieIffStepping.1 ((tickEnabled_eq_true_iff s).1 hEnabled).1) hStill
  | reachesRight hNoDelay _ _ => exact absurd hSettle (by simp [hNoDelay])
  | reachesLeft hNoDelay _ _ => exact absurd hSettle (by simp [hNoDelay])
  | _ => rfl

/-- Settles O22: SETTLE_DONE's effects, SCAN's enabling condition, and the effects that write PHASE. -/
theorem settleDoneEndsTheDelay : Obligations.SettleDoneEndsTheDelay :=
  ⟨by decide, fun _ _ _ hInv hSettle h => exec_keeps_phase_of_settle hInv hSettle h, fun _ =>
    ⟨fun hSettle => (Effect.settles hSettle).exec_eq,
     fun _ hPhase => (scanEnabled_eq_true_iff _).2 ⟨hPhase, rfl⟩,
     fun hSettle => exec_of_not_enabled hSettle⟩⟩

/-- In homing the channel interrupt is off, so no TICK is taken (R103). -/
theorem BlockInv.ie_eq_false_of_homing {s : State} (hInv : BlockInv s) (h : s.phase = .homeR ∨ s.phase = .homeL) :
    s.ie = false :=
  hInv.ie_eq_false (by rcases h with h | h <;> simp [h])

/-- Settles O25: IE is 0 in homing by the invariants, and both HOST and HANDLER are held. -/
theorem homingAndHandlerNeverOverlap : Obligations.HomingAndHandlerNeverOverlap := by
  refine ⟨fun s hInv hPhase => ?_, fun _ angle hPhase => (Effect.moves angle hPhase).leads ⟨rfl, rfl⟩⟩
  have hIe := hInv.ie_eq_false_of_homing hPhase
  exact ⟨hIe, exec_of_not_enabled ((tickEnabled_eq_false_iff s).2 (.inl hIe)),
    fun _ => exec_of_not_enabled ((ready_eq_false_iff s).2 hPhase), Effect.marks.exec_eq⟩

/-- No command of the host is enabled in homing (R92). -/
theorem host_not_enabled_of_homing {i : Instr} {s : State} (hHost : i.agent = .host)
    (hPhase : s.phase = .homeR ∨ s.phase = .homeL) : enabled i s = false := by
  have hBlocked := (ready_eq_false_iff s).2 hPhase
  cases i with
  | init => exact (initEnabled_eq_false_iff s).2 (by tauto)
  | setAngle _ => exact hBlocked
  | setStepModeHalf => exact hBlocked
  | setStepModeFull => exact hBlocked
  | isBusy => exact hBlocked
  | compareMatch => cases hHost
  | tick => cases hHost
  | scan => cases hHost
  | settleDone => cases hHost

/-- In homing PHASE changes only by a SCAN that sees the switch of its phase pressed (R93). -/
theorem exec_phase_of_homing {i : Instr} {s t : State} (hInv : BlockInv s)
    (hPhase : s.phase = .homeR ∨ s.phase = .homeL) (h : exec i s = .next t) :
    t.phase = s.phase ∨
      (i = .scan ∧ s.settle = false ∧ s.phase = .homeR ∧ s.draws.limRn = 0 ∧ t.phase = .homeL) ∨
      (i = .scan ∧ s.settle = false ∧ s.phase = .homeL ∧ s.draws.limLn = 0 ∧ t.phase = .idle) := by
  cases exec_effect h with
  | starts hNow => rcases hPhase with h | h <;> simp [h] at hNow
  | moves _ hNow => rcases hPhase with h | h <;> simp [h] at hNow
  | stops hEnabled _ =>
    exact absurd ((tickEnabled_eq_true_iff s).1 hEnabled).1 (by simp [hInv.ie_eq_false_of_homing hPhase])
  | reachesRight hSettle hRight hSwitch => exact .inr (.inl ⟨rfl, hSettle, hRight, hSwitch, rfl⟩)
  | reachesLeft hSettle hLeft hSwitch => exact .inr (.inr ⟨rfl, hSettle, hLeft, hSwitch, rfl⟩)
  | _ => exact .inl rfl

/-- With the switch of its phase not pressed a homing phase goes on (R99). -/
theorem exec_keeps_phase_of_phaseSwitch {i : Instr} {s t : State} (hInv : BlockInv s)
    (hPhase : s.phase = .homeR ∨ s.phase = .homeL) (hSwitch : s.phaseSwitch = 1) (h : exec i s = .next t) :
    t.phase = s.phase := by
  obtain hSame | ⟨-, -, hRight, hPressed, -⟩ | ⟨-, -, hLeft, hPressed, -⟩ := exec_phase_of_homing hInv hPhase h
  · exact hSame
  · rw [phaseSwitch_of_homeR hRight, hPressed] at hSwitch
    exact absurd hSwitch (by decide)
  · rw [phaseSwitch_of_homeL hLeft, hPressed] at hSwitch
    exact absurd hSwitch (by decide)

/-- Settles O27: PHASE decides READY, and in homing only SCAN changes it. -/
theorem readyReturnsOnlyAtHomingsEnd : Obligations.ReadyReturnsOnlyAtHomingsEnd := by
  intro i s t hInv hBlocked hExec
  have hPhase := (ready_eq_false_iff s).1 hBlocked
  have hHost : i.agent = .host → enabled i s = false ∧ t = s := fun hAgent =>
    have hHeld := host_not_enabled_of_homing hAgent hPhase
    ⟨hHeld, (Host.Outcome.next.inj ((exec_of_not_enabled hHeld).symm.trans hExec)).symm⟩
  have hEnd : i = .scan → s.phase = .homeL → s.settle = false → s.draws.limLn = 0 → t.phase = .idle := by
    rintro rfl hLeft hSettle hSwitch
    have hReach := (Effect.reachesLeft hSettle hLeft hSwitch).exec_eq
    rw [← Host.Outcome.next.inj (hReach.symm.trans hExec)]
    rfl
  have hReturns : t.ready = true →
      i = .scan ∧ s.settle = false ∧ s.phase = .homeL ∧ s.draws.limLn = 0 ∧ t.phase = .idle := by
    intro hReady
    have hLeaves : ¬ (t.phase = .homeR ∨ t.phase = .homeL) := by simpa using (ready_eq_true_iff t).1 hReady
    obtain hSame | ⟨-, -, -, -, hLeft⟩ | hEnds := exec_phase_of_homing hInv hPhase hExec
    · exact absurd (hSame ▸ hPhase) hLeaves
    · exact absurd (.inr hLeft) hLeaves
    · exact hEnds
  refine ⟨⟨fun hReady => ?_, fun ⟨hScan, hLeft, hSettle, hSwitch⟩ => ?_⟩, fun hReady => ?_, hHost⟩
  · obtain ⟨hScan, hSettle, hLeft, hSwitch, -⟩ := hReturns hReady
    exact ⟨hScan, hLeft, hSettle, hSwitch⟩
  · exact (ready_eq_true_iff t).2 (by simp [hEnd hScan hLeft hSettle hSwitch])
  · obtain ⟨-, -, -, -, hIdle⟩ := hReturns hReady
    exact hIdle

/-- STEPPING is left by a TICK at the target only (R124). -/
theorem exec_phase_of_stepping {i : Instr} {s t : State} (hPhase : s.phase = .stepping) (h : exec i s = .next t) :
    t.phase = .stepping ∨ (i = .tick ∧ s.pos = s.tgt ∧ t.phase = .idle) := by
  cases exec_effect h with
  | starts hNow => simp [hPhase] at hNow
  | moves _ _ => exact .inl rfl
  | stops _ hPos => exact .inr ⟨rfl, hPos, rfl⟩
  | reachesRight _ hNow _ => simp [hPhase] at hNow
  | reachesLeft _ hNow _ => simp [hPhase] at hNow
  | _ => exact .inl hPhase

/-- Settles O43: the effects that write PHASE in STEPPING. -/
theorem onlyTargetEndsStepping : Obligations.OnlyTargetEndsStepping := by
  intro i s t _ hPhase hExec
  refine ⟨(exec_phase_of_stepping hPhase hExec).resolve_left, ?_, ?_⟩
  · rintro ⟨angle, rfl⟩
    refine (exec_phase_of_stepping hPhase hExec).resolve_right ?_
    simp
  · rintro rfl
    have hHeld := exec_of_not_enabled (i := .init) ((initEnabled_eq_false_iff s).2 (.inr (.inr hPhase)))
    exact (Host.Outcome.next.inj (hHeld.symm.trans hExec)).symm

/-- Outside homing the invariants keep SETTLE clear, so SCAN and SETTLE_DONE are held. -/
theorem BlockInv.scan_settleDone_held {s : State} (hInv : BlockInv s) (h : s.phase ≠ .homeR ∧ s.phase ≠ .homeL) :
    exec .scan s = .next s ∧ exec .settleDone s = .next s :=
  ⟨exec_of_not_enabled ((scanEnabled_eq_false_iff s).2 (.inl h)), exec_of_not_enabled (hInv.settle_eq_false h)⟩

/-- Outside STEPPING the invariants keep IE clear, so TICK is held. -/
theorem BlockInv.tick_held {s : State} (hInv : BlockInv s) (h : s.phase ≠ .stepping) : exec .tick s = .next s :=
  exec_of_not_enabled ((tickEnabled_eq_false_iff s).2 (.inl (hInv.ie_eq_false h)))

/-- The rows that keep PHASE wherever READY is 1: SET_STEP_MODE and IS_BUSY. -/
theorem leads_phase_of_ready {s : State} (h : s.ready = true) :
    Leads .setStepModeHalf s (fun t => t.phase = s.phase) ∧ Leads .setStepModeFull s (fun t => t.phase = s.phase) ∧
      Leads .isBusy s (fun t => t.phase = s.phase) :=
  ⟨(Effect.setsHalf h).leads rfl, (Effect.setsFull h).leads rfl, (Effect.responds h).leads rfl⟩

/-- Settles O44: the effect or the false enabling condition of each row of R126. -/
theorem phaseTransitionTable : Obligations.PhaseTransitionTable := by
  intro s hInv
  refine ⟨fun hPhase => ?_, fun hPhase => ?_, fun hPhase => ?_, fun hPhase => ?_, fun hPhase => ?_, fun hPhase => ?_,
    Effect.marks.leads ⟨rfl, rfl⟩⟩
  · have hReady := (ready_eq_true_iff_phase s).2 (.inl hPhase)
    obtain ⟨hHalf, hFull, hBusy⟩ := leads_phase_of_ready hReady
    obtain ⟨hScan, hSettle⟩ := hInv.scan_settleDone_held ((ready_eq_true_iff s).1 hReady)
    rw [hPhase] at hHalf hFull hBusy
    exact ⟨(Effect.starts (.inl hPhase)).leads rfl, hHalf, hFull, hBusy,
      fun angle => (Effect.refused angle hPhase).leads ⟨hPhase, rfl, rfl⟩, hInv.tick_held (by simp [hPhase]), hScan,
      hSettle⟩
  · refine ⟨fun hSettle hSwitch => ?_, fun hSettle hSwitch => (Effect.reachesRight hSettle hPhase hSwitch).leads rfl,
      hInv.tick_held (by simp [hPhase])⟩
    exact (Effect.homes hSettle (.inl hPhase) ((phaseSwitch_of_homeR hPhase).trans hSwitch)).leads ⟨hPhase, rfl⟩
  · refine ⟨fun hSettle hSwitch => ?_, fun hSettle hSwitch => (Effect.reachesLeft hSettle hPhase hSwitch).leads rfl,
      hInv.tick_held (by simp [hPhase])⟩
    exact (Effect.homes hSettle (.inr hPhase) ((phaseSwitch_of_homeL hPhase).trans hSwitch)).leads ⟨hPhase, rfl⟩
  · exact ⟨fun hSettle => ⟨exec_of_not_enabled ((scanEnabled_eq_false_iff s).2 (.inr hSettle)),
        (Effect.settles hSettle).leads ⟨rfl, rfl⟩⟩,
      fun hSettle => exec_of_not_enabled hSettle,
      fun _ hHost => exec_of_not_enabled (host_not_enabled_of_homing hHost hPhase)⟩
  · have hReady := (ready_eq_true_iff_phase s).2 (.inr (.inl hPhase))
    obtain ⟨hHalf, hFull, hBusy⟩ := leads_phase_of_ready hReady
    obtain ⟨hScan, hSettle⟩ := hInv.scan_settleDone_held ((ready_eq_true_iff s).1 hReady)
    rw [hPhase] at hHalf hFull hBusy
    exact ⟨(Effect.starts (.inr hPhase)).leads rfl, fun angle => (Effect.moves angle (.inl hPhase)).leads rfl, hHalf,
      hFull, hBusy, hInv.tick_held (by simp [hPhase]), hScan, hSettle⟩
  · have hReady := (ready_eq_true_iff_phase s).2 (.inr (.inr hPhase))
    have hIe := hInv.ieIffStepping.2 hPhase
    obtain ⟨hHalf, hFull, hBusy⟩ := leads_phase_of_ready hReady
    obtain ⟨hScan, hSettle⟩ := hInv.scan_settleDone_held ((ready_eq_true_iff s).1 hReady)
    rw [hPhase] at hHalf hFull hBusy
    exact ⟨fun hPend hPos => (Effect.steps ((tickEnabled_eq_true_iff s).2 ⟨hIe, hPend⟩) hPos).leads hPhase,
      fun hPend hPos => (Effect.stops ((tickEnabled_eq_true_iff s).2 ⟨hIe, hPend⟩) hPos).leads rfl,
      fun hPend => exec_of_not_enabled ((tickEnabled_eq_false_iff s).2 (.inr hPend)),
      fun angle => (Effect.moves angle (.inr hPhase)).leads rfl, hHalf, hFull, hBusy,
      exec_of_not_enabled ((initEnabled_eq_false_iff s).2 (.inr (.inr hPhase))), hScan, hSettle⟩

end Sys2Proof.Machine
end

section
/-!
SUPPORT. Runs of several instructions: what every instruction of a run keeps the run keeps, with the TICKs it takes
counted.
-/

namespace Sys2Proof.Machine

/-- 1 for a TICK that is taken, 0 for any other instruction. -/
def tickTaken (i : Instr) (s : State) : Nat := if i = .tick ∧ s.tickEnabled = true then 1 else 0

theorem tickTaken_of_enabled {s : State} (h : s.tickEnabled = true) : tickTaken .tick s = 1 := if_pos ⟨rfl, h⟩

theorem tickTaken_of_ne_tick {i : Instr} (h : i ≠ .tick) (s : State) : tickTaken i s = 0 := if_neg (by simp [h])

theorem tickTaken_of_not_enabled {s : State} (h : s.tickEnabled = false) : tickTaken .tick s = 0 :=
  if_neg (by simp [h])

theorem leadsAll_nil_iff {s : State} {P : State → Prop} : LeadsAll [] s P ↔ P s :=
  ⟨fun ⟨_, h, hP⟩ => Host.Outcome.next.inj h ▸ hP, fun hP => ⟨s, rfl, hP⟩⟩

theorem leadsAll_cons_iff {x : Drawn} {l : List Drawn} {s t : State} {P : State → Prop}
    (h : exec x.1 { s with draws := x.2 } = .next t) : LeadsAll (x :: l) s P ↔ LeadsAll l t P := by
  simp only [LeadsAll, execAll, h]

theorem takenTicks_cons {x : Drawn} {l : List Drawn} {s t : State} (h : exec x.1 { s with draws := x.2 } = .next t) :
    takenTicks (x :: l) s = tickTaken x.1 { s with draws := x.2 } + takenTicks l t := by
  simp only [takenTicks, h, tickTaken]
  rfl

theorem LeadsAll.imp {l : List Drawn} {s : State} {P R : State → Prop} (h : LeadsAll l s P) (hPR : ∀ u, P u → R u) :
    LeadsAll l s R := by
  obtain ⟨u, hRun, hP⟩ := h
  exact ⟨u, hRun, hPR u hP⟩

/-- If every instruction of the run that meets `Q` keeps `P`, the TICKs it takes counted in, the run keeps `P`. -/
theorem leadsAll_counting {P : Nat → State → Prop} {Q : Drawn → Prop}
    (hDraws : ∀ k s d, P k s → P k { s with draws := d })
    (hExec : ∀ k i s t, Q (i, s.draws) → P k s → exec i s = .next t → P (k + tickTaken i s) t)
    {l : List Drawn} (hl : ∀ x ∈ l, Q x) {k : Nat} {s : State} (hs : P k s) :
    LeadsAll l s (P (k + takenTicks l s)) := by
  induction l generalizing k s with
  | nil => exact leadsAll_nil_iff.2 hs
  | cons x later ih =>
    obtain ⟨hx, hLater⟩ := List.forall_mem_cons.1 hl
    obtain ⟨t, ht⟩ := exec_total x.1 { s with draws := x.2 }
    rw [leadsAll_cons_iff ht, takenTicks_cons ht, ← Nat.add_assoc]
    exact ih hLater (hExec k x.1 _ t hx (hDraws k s x.2 hs) ht)

/-- The same without the count. -/
theorem leadsAll_of_kept {P : State → Prop} {Q : Drawn → Prop} (hDraws : ∀ s d, P s → P { s with draws := d })
    (hExec : ∀ i s t, Q (i, s.draws) → P s → exec i s = .next t → P t) {l : List Drawn} (hl : ∀ x ∈ l, Q x) {s : State}
    (hs : P s) : LeadsAll l s P :=
  leadsAll_counting (P := fun _ => P) (k := 0) (fun _ => hDraws) (fun _ => hExec) hl hs

theorem blockInv_draws {s : State} (h : BlockInv s) (d : Draws) : BlockInv { s with draws := d } := { h with }

/-- A run whose draws never show the switch of the homing phase pressed stays in the phase (R99, R180). -/
theorem leadsAll_hangs {s : State} {l : List Drawn} (hInv : BlockInv s) (hPhase : s.phase = .homeR ∨ s.phase = .homeL)
    (hUnpressed : ∀ x ∈ l, State.phaseSwitch { s with draws := x.2 } = 1) :
    LeadsAll l s fun u => u.phase = s.phase ∧ u.ready = false := by
  refine (leadsAll_of_kept (P := fun u => BlockInv u ∧ u.phase = s.phase)
    (Q := fun x => State.phaseSwitch { s with draws := x.2 } = 1) (fun _ d h => ⟨blockInv_draws h.1 d, h.2⟩) ?_
    hUnpressed ⟨hInv, rfl⟩).imp fun u ⟨_, hu⟩ => ⟨hu, (ready_eq_false_iff u).2 (hu ▸ hPhase)⟩
  rintro i u t hSwitch ⟨hu, hSame⟩ hExec
  have hOwnSwitch : u.phaseSwitch = 1 := by rwa [State.phaseSwitch, hSame]
  exact ⟨exec_keeps_blockInv hu hExec,
    (exec_keeps_phase_of_phaseSwitch hu (hSame ▸ hPhase) hOwnSwitch hExec).trans hSame⟩

/-- Settles O24: with the invariants, PHASE changes in homing only by a SCAN that sees its switch pressed. -/
theorem homingHangsUntilPressed : Obligations.HomingHangsUntilPressed := by
  intro s l hInv
  refine ⟨fun hPhase hOpen => ?_, fun hPhase hOpen => ?_⟩
  · have hRun := leadsAll_hangs hInv (.inl hPhase) fun x hx =>
      (phaseSwitch_of_homeR (s := { s with draws := x.2 }) hPhase).trans (hOpen x hx)
    rwa [hPhase] at hRun
  · have hRun := leadsAll_hangs hInv (.inr hPhase) fun x hx =>
      (phaseSwitch_of_homeL (s := { s with draws := x.2 }) hPhase).trans (hOpen x hx)
    rwa [hPhase] at hRun

end Sys2Proof.Machine
end

section
/-!
SUPPORT. The motion invariant (R113, R115, R122, R181): where a motion stands after `k` TICKs, said of the state its
SET_ANGLE left. Which TICK finds the target is a question about the positions on the way alone.
-/

namespace Sys2Proof.Machine

/-- What a motion reads and writes stands as it stood. -/
structure SameMotion (s t : State) : Prop where
  phase : t.phase = s.phase
  busy : t.busy = s.busy
  ie : t.ie = s.ie
  tgt : t.tgt = s.tgt
  dir : t.dir = s.dir
  pos : t.pos = s.pos
  tc : t.tc = s.tc
  stepSpeed : t.stepSpeed = s.stepSpeed

/-- TICK, SET_ANGLE and INIT aside no instruction touches a motion. -/
theorem exec_sameMotion {i : Instr} {s t : State} (hPhase : s.phase = .idle ∨ s.phase = .stepping) (hTick : i ≠ .tick)
    (hAngle : ∀ angle, i ≠ .setAngle angle) (hInit : i = .init → s.phase = .stepping) (h : exec i s = .next t) :
    SameMotion s t := by
  have hNotRight : s.phase ≠ .homeR := by rcases hPhase with h | h <;> simp [h]
  have hNotLeft : s.phase ≠ .homeL := by rcases hPhase with h | h <;> simp [h]
  cases exec_effect h with
  | starts hNow => simp [hInit rfl] at hNow
  | refused angle _ => exact absurd rfl (hAngle angle)
  | moves angle _ => exact absurd rfl (hAngle angle)
  | stops _ _ => exact absurd rfl hTick
  | steps _ _ => exact absurd rfl hTick
  | reachesRight _ hRight _ => exact absurd hRight hNotRight
  | reachesLeft _ hLeft _ => exact absurd hLeft hNotLeft
  | homes _ hHoming _ => exact absurd hHoming (by simp [hNotRight, hNotLeft])
  | _ => exact ⟨rfl, rfl, rfl, rfl, rfl, rfl, rfl, rfl⟩

/-- A turn that is taken touches no motion. -/
theorem sameMotion_turn (s : State) (d : Draws) (later : List Turn) :
    SameMotion s { s with schedule := later, draws := d } :=
  ⟨rfl, rfl, rfl, rfl, rfl, rfl, rfl, rfl⟩

theorem ne_setAngle_of_keepsTrajectory {i : Instr} (h : keepsTrajectory i = true) (angle : Int) :
    i ≠ .setAngle angle := by
  rintro rfl
  cases h

theorem ne_init_of_keepsTrajectory {i : Instr} (h : keepsTrajectory i = true) : i ≠ .init := by
  rintro rfl
  cases h

/-- The position `j` steps from where the motion `m` starts (R83). -/
def pathPosition (m : State) (j : Nat) : Position := BitVec.ofInt 16 (m.pos.toInt + j * m.dir.toInt)

theorem pathPosition_zero (m : State) : pathPosition m 0 = m.pos := by
  simp [pathPosition]

theorem pathPosition_succ (m : State) (j : Nat) : pathPosition m (j + 1) = pathPosition m j + m.dir.signExtend 16 := by
  rw [pathPosition, Nat.cast_succ, Int.add_mul, one_mul, ← Int.add_assoc, BitVec.ofInt_add _ m.dir.toInt]
  rfl

/-- `k` TICKs into the motion that started as `m`, none of which has found the target. -/
structure Moving (m : State) (k : Nat) (u : State) : Prop where
  phase : u.phase = .stepping
  busy : u.busy = true
  ie : u.ie = true
  tgt : u.tgt = m.tgt
  dir : u.dir = m.dir
  pos : u.pos = pathPosition m k
  tc : u.tc = m.tc + BitVec.ofNat 16 k * m.stepSpeed
  stepSpeed : u.stepSpeed = m.stepSpeed
  notYet : ∀ j < k, pathPosition m j ≠ m.tgt

/-- The target is the position after `j` steps from `m` and after no fewer. -/
def FirstHit (m : State) (j : Nat) : Prop := pathPosition m j = m.tgt ∧ ∀ i < j, pathPosition m i ≠ m.tgt

/-- The last of the `k` TICKs of the motion that started as `m` has found the target. -/
structure Arrived (m : State) (k : Nat) (u : State) : Prop where
  phase : u.phase = .idle
  busy : u.busy = false
  ie : u.ie = false
  tgt : u.tgt = m.tgt
  pos : u.pos = m.tgt
  ticks : ∃ j, k = j + 1 ∧ FirstHit m j

/-- Where the motion that started as `m` stands after `k` TICKs. -/
def OnCourse (m : State) (k : Nat) (u : State) : Prop := Moving m k u ∨ Arrived m k u

theorem Moving.of_same {m s t : State} {k : Nat} (h : Moving m k s) (hSame : SameMotion s t) : Moving m k t where
  phase := hSame.phase.trans h.phase
  busy := hSame.busy.trans h.busy
  ie := hSame.ie.trans h.ie
  tgt := hSame.tgt.trans h.tgt
  dir := hSame.dir.trans h.dir
  pos := hSame.pos.trans h.pos
  tc := hSame.tc.trans h.tc
  stepSpeed := hSame.stepSpeed.trans h.stepSpeed
  notYet := h.notYet

theorem Arrived.of_same {m s t : State} {k : Nat} (h : Arrived m k s) (hSame : SameMotion s t) : Arrived m k t where
  phase := hSame.phase.trans h.phase
  busy := hSame.busy.trans h.busy
  ie := hSame.ie.trans h.ie
  tgt := hSame.tgt.trans h.tgt
  pos := hSame.pos.trans h.pos
  ticks := h.ticks

/-- A TICK at the target ends the motion: it is the first to find the target. -/
theorem Moving.stop {m s : State} {k : Nat} (h : Moving m k s) (hPos : s.pos = s.tgt) :
    Arrived m (k + 1) (tickStop (consumePending s)) where
  phase := rfl
  busy := rfl
  ie := rfl
  tgt := h.tgt
  pos := hPos.trans h.tgt
  ticks := ⟨k, rfl, h.pos.symm.trans (hPos.trans h.tgt), h.notYet⟩

/-- A TICK away from the target takes the motion one step on (R121, R122). -/
theorem Moving.step {m s : State} {k : Nat} (h : Moving m k s) (hPos : s.pos ≠ s.tgt) :
    Moving m (k + 1) (tickStep (consumePending s)) := by
  rw [tickStep_consumePending_eq]
  exact
    { phase := h.phase
      busy := h.busy
      ie := h.ie
      tgt := h.tgt
      dir := h.dir
      pos := by rw [pathPosition_succ, ← h.pos, ← h.dir]
      tc := by
        simp only [h.tc, h.stepSpeed, BitVec.ofNat_add, BitVec.add_mul, BitVec.add_assoc]
        simp
      stepSpeed := h.stepSpeed
      notYet := by
        intro j hj
        obtain hLess | rfl := Nat.lt_succ_iff_lt_or_eq.1 hj
        · exact h.notYet j hLess
        · rwa [← h.pos, ← h.tgt] }

/-- Every instruction that sets no other target or direction keeps a motion on its course. -/
theorem exec_keeps_onCourse {m s t : State} {k : Nat} {i : Instr} (hi : keepsTrajectory i = true) (h : OnCourse m k s)
    (hExec : exec i s = .next t) : OnCourse m (k + tickTaken i s) t := by
  by_cases hTick : i = .tick
  · subst hTick
    obtain ⟨hHeld, rfl⟩ | ⟨hEnabled, hPos, rfl⟩ | ⟨hEnabled, hPos, rfl⟩ := execTick_cases hExec
    · rwa [tickTaken_of_not_enabled hHeld]
    all_goals
      have hIe := ((tickEnabled_eq_true_iff s).1 hEnabled).1
      rw [tickTaken_of_enabled hEnabled]
      obtain hMoving | hArrived := h
    · exact .inr (hMoving.stop hPos)
    · exact absurd hIe (by simp [hArrived.ie])
    · exact .inl (hMoving.step hPos)
    · exact absurd hIe (by simp [hArrived.ie])
  · have hPhase : s.phase = .idle ∨ s.phase = .stepping := h.symm.imp Arrived.phase Moving.phase
    have hSame : SameMotion s t := exec_sameMotion hPhase hTick (ne_setAngle_of_keepsTrajectory hi)
      (fun hInit => absurd hInit (ne_init_of_keepsTrajectory hi)) hExec
    rw [tickTaken_of_ne_tick hTick]
    exact h.imp (·.of_same hSame) (·.of_same hSame)

theorem OnCourse.withDraws {m s : State} {k : Nat} (h : OnCourse m k s) (d : Draws) :
    OnCourse m k { s with draws := d } :=
  h.imp (·.of_same (sameMotion_turn s d s.schedule)) (·.of_same (sameMotion_turn s d s.schedule))

/-- An accepted SET_ANGLE puts its motion at its start. -/
theorem moving_startMotion (s : State) : Moving (startMotion s) 0 (startMotion s) where
  phase := rfl
  busy := rfl
  ie := rfl
  tgt := rfl
  dir := rfl
  pos := (pathPosition_zero _).symm
  tc := by simp
  stepSpeed := rfl
  notYet := by simp

/-- A motion stays on its course through any run that sets no other target or direction. -/
theorem leadsAll_onCourse (s : State) {l : List Drawn} (hl : ∀ x ∈ l, keepsTrajectory x.1 = true) :
    LeadsAll l (startMotion s) (OnCourse (startMotion s) (takenTicks l (startMotion s))) := by
  have hRun := leadsAll_counting (P := OnCourse (startMotion s)) (Q := fun x => keepsTrajectory x.1 = true)
    (fun _ _ d h => h.withDraws d) (fun _ _ _ _ hi h hExec => exec_keeps_onCourse hi h hExec) hl
    (.inl (moving_startMotion s))
  rwa [Nat.zero_add] at hRun

/-- Settles O42: a motion that is still busy has its compare value in the invariant. -/
theorem compareValueAdvances : Obligations.CompareValueAdvances := by
  intro angle s l hPhase hl
  refine (Effect.moves angle hPhase).leads ((leadsAll_onCourse (aim angle s) hl).imp fun u hCourse hBusy => ?_)
  obtain hMoving | hArrived := hCourse
  · rw [hMoving.tc, startMotion_aim_eq]
  · exact absurd hBusy (by simp [hArrived.busy])

/-- Settles O30: what SET_ANGLE writes, and the invariant's two ways for the motion to stand. -/
theorem retargetAbandonsTheOldMotion : Obligations.RetargetAbandonsTheOldMotion := by
  intro angle s hPhase
  refine (Effect.moves angle (.inr hPhase)).leads
    ⟨rfl, rfl, congrArg (wrapS 16) (scaledTarget_eq angle s.maxs), ?_, ?_, rfl, ?_⟩
  · rw [startMotion_aim_dir, directionFor_eq]
    simp only [gt_iff_lt, Int.sub_pos]
  · rw [startMotion_aim_eq]
  · refine fun l hl => (leadsAll_onCourse (aim angle s) hl).imp fun u hCourse => ?_
    obtain hMoving | hArrived := hCourse
    · exact ⟨hMoving.tgt, fun hDone => absurd hDone (by simp [hMoving.busy])⟩
    · exact ⟨hArrived.tgt, fun _ => hArrived.pos⟩

/-- The target lies `n` steps of the direction ahead, as exact integers. -/
def Spans (m : State) (n : Nat) : Prop := m.dir.toInt ≠ 0 ∧ m.pos.toInt + n * m.dir.toInt = m.tgt.toInt

/-- On the way to a target ahead the exact position stays between start and target. -/
theorem Spans.between {m : State} {n j : Nat} (h : Spans m n) (hj : j ≤ n) :
    min m.pos.toInt m.tgt.toInt ≤ m.pos.toInt + j * m.dir.toInt ∧
      m.pos.toInt + j * m.dir.toInt ≤ max m.pos.toInt m.tgt.toInt := by
  obtain ⟨-, hSpan⟩ := h
  have hCount : (j : Int) ≤ n := by omega
  obtain hForward | hBackward := Int.le_total 0 m.dir.toInt
  · have hLow := Int.mul_nonneg (Int.natCast_nonneg j) hForward
    have hHigh := Int.mul_le_mul_of_nonneg_right hCount hForward
    omega
  · have hHigh := Int.mul_nonpos_of_nonneg_of_nonpos (Int.natCast_nonneg j) hBackward
    have hLow := Int.mul_le_mul_of_nonpos_right hCount hBackward
    omega

/-- So no position on the way wraps. -/
theorem Spans.toInt_pathPosition {m : State} {n j : Nat} (h : Spans m n) (hj : j ≤ n) :
    (pathPosition m j).toInt = m.pos.toInt + j * m.dir.toInt := by
  obtain ⟨hLow, hHigh⟩ := h.between hj
  have hPosLow := BitVec.le_toInt m.pos
  have hPosHigh := BitVec.toInt_lt (x := m.pos)
  have hTgtLow := BitVec.le_toInt m.tgt
  have hTgtHigh := BitVec.toInt_lt (x := m.tgt)
  rw [pathPosition, BitVec.toInt_ofInt]
  exact Int.bmod_eq_of_le (by omega) (by omega)

/-- The way to a target `n` steps ahead meets it there first. -/
theorem Spans.firstHit {m : State} {n : Nat} (h : Spans m n) : FirstHit m n := by
  refine ⟨BitVec.eq_of_toInt_eq ((h.toInt_pathPosition le_rfl).trans h.2), fun j hj hEarly => ?_⟩
  have hEqual : (j : Int) * m.dir.toInt = n * m.dir.toInt := by
    have hInt := congrArg BitVec.toInt hEarly
    rw [h.toInt_pathPosition hj.le, ← h.2] at hInt
    exact Int.add_left_cancel hInt
  have hCount := Int.eq_of_mul_eq_mul_right h.1 hEqual
  omega

theorem FirstHit.unique {m : State} {i j : Nat} (hi : FirstHit m i) (hj : FirstHit m j) : i = j := by
  obtain hLess | hEqual | hMore := Nat.lt_trichotomy i j
  · exact absurd hi.1 (hj.2 i hLess)
  · exact hEqual
  · exact absurd hj.1 (hi.2 j hMore)

theorem Moving.le_of_firstHit {m u : State} {k n : Nat} (h : Moving m k u) (hHit : FirstHit m n) : k ≤ n := by
  by_contra hPast
  exact h.notYet n (by omega) hHit.1

theorem Arrived.eq_of_firstHit {m u : State} {k n : Nat} (h : Arrived m k u) (hHit : FirstHit m n) : k = n + 1 := by
  obtain ⟨j, hk, hFirst⟩ := h.ticks
  rw [hk, hFirst.unique hHit]

/-- A difference of `n` times the mode is `n` steps of the direction SET_ANGLE sets. -/
theorem spans_of_natAbs_eq {m : State} {mode : ModeBits} {n : Nat} (hMode : mode = 1 ∨ mode = 2)
    (hDir : m.dir = directionFor mode (m.tgt.toInt - m.pos.toInt))
    (hn : (m.tgt.toInt - m.pos.toInt).natAbs = n * mode.toNat) : Spans m n := by
  have hPositive : 0 < mode.toNat := by rcases hMode with rfl | rfl <;> decide
  have hCount : (n : Int) * mode.toNat = (m.tgt.toInt - m.pos.toInt).natAbs := by rw [hn, Nat.cast_mul]
  have hUnit := toInt_directionFor hMode (m.tgt.toInt - m.pos.toInt)
  rw [← hDir] at hUnit
  by_cases hAhead : m.tgt.toInt - m.pos.toInt > 0
  · rw [if_pos hAhead] at hUnit
    exact ⟨by omega, by rw [hUnit, hCount]; omega⟩
  · rw [if_neg hAhead] at hUnit
    exact ⟨by omega, by rw [hUnit, Int.mul_neg, hCount]; omega⟩

theorem motionTicks_half (diff : Int) : motionTicks 1 diff = some (diff.natAbs + 1) := if_neg (by decide)

theorem motionTicks_full_of_even {diff : Int} (h : diff % 2 = 0) : motionTicks 2 diff = some (diff.natAbs / 2 + 1) :=
  (if_pos rfl).trans (if_pos h)

theorem motionTicks_full_of_odd {diff : Int} (h : diff % 2 ≠ 0) : motionTicks 2 diff = none :=
  (if_pos rfl).trans (if_neg h)

/-- R115's number of TICKs is one more than the steps of the mode's magnitude to the target, where there are such. -/
theorem spans_of_motionTicks {m : State} {mode : ModeBits} (hMode : mode = 1 ∨ mode = 2)
    (hDir : m.dir = directionFor mode (m.tgt.toInt - m.pos.toInt)) {n : Nat}
    (h : motionTicks mode (m.tgt.toInt - m.pos.toInt) = some n) : ∃ j, n = j + 1 ∧ Spans m j := by
  obtain rfl | rfl := hMode
  · obtain rfl := Option.some.inj ((motionTicks_half _).symm.trans h)
    exact ⟨_, rfl, spans_of_natAbs_eq (.inl rfl) hDir (Nat.mul_one _).symm⟩
  · by_cases hEven : (m.tgt.toInt - m.pos.toInt) % 2 = 0
    · obtain rfl := Option.some.inj ((motionTicks_full_of_even hEven).symm.trans h)
      refine ⟨_, rfl, spans_of_natAbs_eq (.inr rfl) hDir ?_⟩
      change _ = _ * 2
      omega
    · exact absurd ((motionTicks_full_of_odd hEven).symm.trans h) (by simp)

/-- A full-step motion whose target can only be missed (R181). -/
structure OddMotion (u : State) : Prop where
  phase : u.phase = .stepping
  busy : u.busy = true
  dir : u.dir.toInt = 2 ∨ u.dir.toInt = -2
  odd : (u.tgt.toInt - u.pos.toInt) % 2 = 1

theorem OddMotion.pos_ne_tgt {u : State} (h : OddMotion u) : u.pos ≠ u.tgt := by
  intro hPos
  have hOdd := h.odd
  simp [hPos] at hOdd

theorem OddMotion.of_same {s t : State} (h : OddMotion s) (hSame : SameMotion s t) : OddMotion t where
  phase := hSame.phase.trans h.phase
  busy := hSame.busy.trans h.busy
  dir := by rw [hSame.dir]; exact h.dir
  odd := by rw [hSame.tgt, hSame.pos]; exact h.odd

/-- A full step keeps the parity of the difference, the wrap included (R87). -/
theorem OddMotion.step {s : State} (h : OddMotion s) : OddMotion (tickStep (consumePending s)) where
  phase := h.phase
  busy := h.busy
  dir := h.dir
  odd := by
    have hOdd := h.odd
    have hMove : (tickStep (consumePending s)).pos.toInt = Int.bmod (s.pos.toInt + s.dir.toInt) 65536 :=
      (positionMovesByDirection s).1
    rw [hMove, Int.bmod_def]
    change (s.tgt.toInt - _) % 2 = 1
    rcases h.dir with hDir | hDir <;> rw [hDir] <;> split <;> omega

/-- No instruction but SET_ANGLE ends such a motion: no TICK finds the target, and INIT is held. -/
theorem exec_keeps_oddMotion {i : Instr} {s t : State} (hi : ∀ angle, i ≠ .setAngle angle) (h : OddMotion s)
    (hExec : exec i s = .next t) : OddMotion t := by
  by_cases hTick : i = .tick
  · subst hTick
    obtain ⟨-, rfl⟩ | ⟨-, hPos, -⟩ | ⟨-, -, rfl⟩ := execTick_cases hExec
    · exact h
    · exact absurd hPos h.pos_ne_tgt
    · exact h.step
  · exact h.of_same (exec_sameMotion (.inr h.phase) hTick hi (fun _ => h.phase) hExec)

theorem leadsAll_oddMotion {s : State} {l : List Drawn} (hl : ∀ x ∈ l, ∀ angle, x.1 ≠ .setAngle angle)
    (hs : OddMotion s) : LeadsAll l s OddMotion :=
  leadsAll_of_kept (Q := fun x => ∀ angle, x.1 ≠ .setAngle angle)
    (fun s d h => h.of_same (sameMotion_turn s d s.schedule))
    (fun _ _ _ hi h hExec => exec_keeps_oddMotion hi h hExec) hl hs

/-- Settles O46: the odd difference is an invariant of every run without a SET_ANGLE. -/
theorem oddFullStepMotionNeverEnds : Obligations.OddFullStepMotionNeverEnds := fun _ _ hPhase hBusy hDir hOdd hl =>
  (leadsAll_oddMotion hl ⟨hPhase, hBusy, hDir, hOdd⟩).imp fun _ h => ⟨h.phase, h.busy, h.pos_ne_tgt⟩

/-- R115 gives no number of TICKs for a full-step motion over an odd difference only. -/
theorem full_odd_of_motionTicks_none {mode : ModeBits} {diff : Int} (hMode : mode = 1 ∨ mode = 2)
    (h : motionTicks mode diff = none) : mode = 2 ∧ diff % 2 = 1 := by
  obtain rfl | rfl := hMode
  · cases (motionTicks_half diff).symm.trans h
  · refine ⟨rfl, ?_⟩
    by_contra hEven
    cases (motionTicks_full_of_even (by omega)).symm.trans h

/-- What the invariant says of a motion whose target lies `n` steps ahead (R115). -/
theorem OnCourse.of_spans {m u : State} {k n : Nat} (h : OnCourse m k u) (hSpans : Spans m n) :
    k ≤ n + 1 ∧ (u.busy = true ↔ k < n + 1) ∧ u.pos = pathPosition m (min k n) ∧ (k = n + 1 → u.pos = m.tgt) := by
  obtain hMoving | hArrived := h
  · have hCount := hMoving.le_of_firstHit hSpans.firstHit
    refine ⟨by omega, iff_of_true hMoving.busy (by omega), ?_, by omega⟩
    rw [Nat.min_eq_left hCount, hMoving.pos]
  · have hCount := hArrived.eq_of_firstHit hSpans.firstHit
    refine ⟨hCount.le, iff_of_false (by simp [hArrived.busy]) (by omega), ?_, fun _ => hArrived.pos⟩
    rw [Nat.min_eq_right (by omega), hArrived.pos, hSpans.firstHit.1]

/-- Settles O45: with a number of TICKs the target is that many steps ahead but one, and the invariant counts them;
without one the motion is odd. -/
theorem motionTakesExactlyNTicks : Obligations.MotionTakesExactlyNTicks := by
  intro angle s l hPhase hMode hl
  refine (Effect.moves angle hPhase).leads ?_
  have hDir := startMotion_aim_dir angle s
  cases hTicks : motionTicks s.mode ((startMotion (aim angle s)).tgt.toInt - s.pos.toInt) with
  | none =>
    obtain ⟨hFull, hOdd⟩ := full_odd_of_motionTicks_none hMode hTicks
    have hTwo : (startMotion (aim angle s)).dir.toInt = 2 ∨ (startMotion (aim angle s)).dir.toInt = -2 := by
      rw [hDir, toInt_directionFor hMode, hFull]
      split
      · exact .inl rfl
      · exact .inr rfl
    exact (leadsAll_oddMotion (fun x hx => ne_setAngle_of_keepsTrajectory (hl x hx)) ⟨rfl, rfl, hTwo, hOdd⟩).imp
      fun _ h => h.busy
  | some n =>
    obtain ⟨j, rfl, hSpans⟩ := spans_of_motionTicks hMode hDir hTicks
    exact (leadsAll_onCourse (aim angle s) hl).imp fun _ hCourse => hCourse.of_spans hSpans

/-- Settles O47: the condition gives a number of TICKs, so the target lies whole steps ahead, and the way to it stays
between start and target. -/
theorem motionNeverOvershoots : Obligations.MotionNeverOvershoots := by
  intro angle s l hPhase hl
  refine (Effect.moves angle hPhase).leads fun hCondition => ?_
  have hTicks : ∃ n, motionTicks s.mode ((startMotion (aim angle s)).tgt.toInt - s.pos.toInt) = some n := by
    rcases hCondition with hHalf | ⟨hFull, hEven⟩
    · exact ⟨_, hHalf ▸ motionTicks_half _⟩
    · exact ⟨_, hFull ▸ motionTicks_full_of_even hEven⟩
  obtain ⟨n, hTicks⟩ := hTicks
  have hMode : s.mode = 1 ∨ s.mode = 2 := hCondition.imp_right And.left
  obtain ⟨j, rfl, hSpans⟩ := spans_of_motionTicks hMode (startMotion_aim_dir angle s) hTicks
  refine (leadsAll_onCourse (aim angle s) hl).imp fun u hCourse => ?_
  obtain ⟨-, -, hPos, -⟩ := hCourse.of_spans hSpans
  have hWay : min (takenTicks l (startMotion (aim angle s))) j ≤ j := Nat.min_le_right _ _
  rw [hPos, hSpans.toInt_pathPosition hWay]
  exact hSpans.between hWay

end Sys2Proof.Machine
end

section
/-!
SUPPORT. Progress under weak fairness (R128, D34): while a motion that steps by one is on its course, MATCH must come,
then TICK must, and each TICK taken brings it one step nearer to the TICK that ends it.
-/

namespace Sys2Proof.Machine

/-- From point `n` on the host issues nothing and the power stays on. -/
structure QuietFrom (n : Nat) (st : Nat → State) (turn : Nat → Turn) : Prop where
  step : ∀ j, n ≤ j → (st j).commands = [] → step { st j with schedule := [turn j] } = .next (st (j + 1))
  powered : ∀ j, n ≤ j → (turn j).mover ≠ .powerOn

/-- With an empty port and the power on, a turn runs the instruction its event names, or changes the draws only. -/
theorem step_of_empty_port {s t : State} {turn : Turn} (hPort : s.commands = []) (hPower : turn.mover ≠ .powerOn)
    (hStep : step { s with schedule := [turn] } = .next t) :
    (∃ e i, turn.mover = .event e ∧ decodeEvent e = some i ∧
      exec i { s with schedule := [], draws := turn.draws } = .next t) ∨
    (∀ e, turn.mover = .event e → decodeEvent e = none) ∧ t = { s with schedule := [], draws := turn.draws } := by
  have hFetch := fetch_of_schedule_cons (s := { s with schedule := [turn] }) rfl
  cases hMover : turn.mover with
  | powerOn => exact absurd hMover hPower
  | host =>
    rw [hMover] at hFetch
    have hQuiet := step_of_fetch_quiet (hFetch.trans (fetchMover_host_of_commands_nil hPort))
    exact .inr ⟨fun _ h => (nomatch h), (Host.Outcome.next.inj (hQuiet.symm.trans hStep)).symm⟩
  | event e =>
    rw [hMover] at hFetch
    cases hDecode : decodeEvent e with
    | some i =>
      have hRun := step_of_fetch_run (hFetch.trans (fetchEvent_of_some hDecode))
      exact .inl ⟨e, i, rfl, hDecode, hRun.symm.trans hStep⟩
    | none =>
      have hQuiet := step_of_fetch_quiet (hFetch.trans (fetchEvent_of_none hDecode))
      refine .inr ⟨fun _ h => ?_, (Host.Outcome.next.inj (hQuiet.symm.trans hStep)).symm⟩
      obtain rfl := Mover.event.inj h
      exact hDecode

/-- An event's instruction sets no target or direction. -/
theorem keepsTrajectory_of_decodeEvent {e : EventCode} {i : Instr} (h : decodeEvent e = some i) :
    keepsTrajectory i = true := by
  obtain ⟨-, rfl⟩ | ⟨-, rfl⟩ | ⟨-, rfl⟩ | ⟨-, rfl⟩ := decodeEvent_some_cases h <;> rfl

/-- TICK and SET_ANGLE aside no instruction clears PEND (R37, R41). -/
theorem exec_keeps_pend {i : Instr} {s t : State} (hTick : i ≠ .tick) (hAngle : ∀ angle, i ≠ .setAngle angle)
    (hPend : s.pend = true) (h : exec i s = .next t) : t.pend = true := by
  obtain ⟨-, -, -, -, -, -, -, -, -, -, hWriters, -⟩ := writersOfEachRegister i s t h
  by_contra hClear
  obtain ⟨hSet, -⟩ | ⟨-, rfl | ⟨angle, rfl⟩⟩ := hWriters (by rwa [hPend])
  · exact hClear hSet
  · exact hTick rfl
  · exact hAngle angle rfl

/-- The motion goes on at `t` as it stood at `s`; a pending flag stays, so the turn was no TICK; and a MATCH sets it. -/
structure Stalls (m : State) (k : Nat) (mover : Mover) (s t : State) : Prop where
  moving : Moving m k t
  pending : s.pend = true → t.pend = true ∧ mover ≠ .event 2
  matched : mover = .event 1 → t.pend = true

/-- An event in a motion takes the motion's next TICK, or the motion stalls. -/
theorem Moving.event {m s t : State} {k : Nat} {e : EventCode} {i : Instr} (h : Moving m k s)
    (hDecode : decodeEvent e = some i) (hExec : exec i s = .next t) :
    OnCourse m (k + 1) t ∨ Stalls m k (.event e) s t := by
  have hKeeps := keepsTrajectory_of_decodeEvent hDecode
  have hAngle := ne_setAngle_of_keepsTrajectory hKeeps
  have hCourse := exec_keeps_onCourse hKeeps (.inl h) hExec
  by_cases hTick : i = .tick
  · subst hTick
    cases hEnabled : s.tickEnabled with
    | true => exact .inl (tickTaken_of_enabled hEnabled ▸ hCourse)
    | false =>
      have hHeld := exec_of_not_enabled (i := .tick) hEnabled
      obtain rfl := Host.Outcome.next.inj (hHeld.symm.trans hExec)
      have hClear : s.pend = false := by simpa [State.tickEnabled, h.ie] using hEnabled
      refine .inr ⟨h, fun hSet => absurd hSet (by simp [hClear]), fun hMatch => ?_⟩
      obtain rfl := Mover.event.inj hMatch
      cases hDecode
  · have hSame := exec_sameMotion (.inr h.phase) hTick hAngle (fun _ => h.phase) hExec
    refine .inr ⟨h.of_same hSame, fun hPend => ⟨exec_keeps_pend hTick hAngle hPend hExec, fun hTurn => ?_⟩,
      fun hMatch => ?_⟩
    · obtain rfl := Mover.event.inj hTurn
      exact hTick (Option.some.inj hDecode).symm
    · obtain rfl := Mover.event.inj hMatch
      obtain rfl := Option.some.inj hDecode
      rw [← Host.Outcome.next.inj hExec]

/-- One turn of a motion: it takes its next TICK, or it stalls. -/
theorem Moving.turn {m s t : State} {k : Nat} {turn : Turn} (h : Moving m k s) (hPort : s.commands = [])
    (hPower : turn.mover ≠ .powerOn) (hStep : Machine.step { s with schedule := [turn] } = .next t) :
    t.commands = [] ∧ (OnCourse m (k + 1) t ∨ Stalls m k turn.mover s t) := by
  have hTaken : Moving m k { s with schedule := [], draws := turn.draws } :=
    h.of_same (sameMotion_turn s turn.draws [])
  obtain ⟨e, i, hMover, hDecode, hExec⟩ | ⟨hNone, rfl⟩ := step_of_empty_port hPort hPower hStep
  · refine ⟨(exec_commands hExec).trans hPort, ?_⟩
    rw [hMover]
    exact (hTaken.event hDecode hExec).imp_right fun hStalls => { hStalls with }
  · refine ⟨hPort, .inr ⟨hTaken, fun hPend => ⟨hPend, fun hTick => ?_⟩, fun hMatch => ?_⟩⟩
    · cases hNone 2 hTick
    · cases hNone 1 hMatch

section
variable {st : Nat → State} {turn : Nat → Turn} {n : Nat} {m : State}

/-- In a fair run a motion takes its next TICK: else it would stall for ever, MATCH would come and set PEND for good,
and then TICK would come. -/
theorem exists_next_tick (hQuiet : QuietFrom n st turn) (hFair : WeaklyFair st turn) {j k : Nat} (hj : n ≤ j)
    (hPort : (st j).commands = []) (hMoving : Moving m k (st j)) :
    ∃ j', j ≤ j' ∧ (st j').commands = [] ∧ OnCourse m (k + 1) (st j') := by
  by_contra hNever
  push Not at hNever
  have hTurn : ∀ a, j ≤ a → (st a).commands = [] → Moving m k (st a) →
      (st (a + 1)).commands = [] ∧ Stalls m k (turn a).mover (st a) (st (a + 1)) := fun a ha hPort hMoving =>
    have hNext := hMoving.turn hPort (hQuiet.powered a (hj.trans ha)) (hQuiet.step a (hj.trans ha) hPort)
    ⟨hNext.1, hNext.2.resolve_left (hNever (a + 1) (ha.trans (Nat.le_succ a)) hNext.1)⟩
  have hAlways : ∀ a, j ≤ a → (st a).commands = [] ∧ Moving m k (st a) := by
    intro a ha
    induction a, ha using Nat.le_induction with
    | base => exact ⟨hPort, hMoving⟩
    | succ a ha ih => exact ⟨(hTurn a ha ih.1 ih.2).1, (hTurn a ha ih.1 ih.2).2.moving⟩
  have hStalls : ∀ a, j ≤ a → Stalls m k (turn a).mover (st a) (st (a + 1)) := fun a ha =>
    (hTurn a ha (hAlways a ha).1 (hAlways a ha).2).2
  obtain ⟨b, hb, hMatch⟩ := hFair.fairMatch j fun a ha => (hAlways a ha).2.ie
  have hPend : ∀ a, b + 1 ≤ a → (st a).pend = true := by
    intro a ha
    induction a, ha using Nat.le_induction with
    | base => exact (hStalls b hb).matched hMatch
    | succ a ha ih => exact ((hStalls a (by omega)).pending ih).1
  obtain ⟨c, hc, hTick⟩ := hFair.fairTick (b + 1) fun a ha =>
    (tickEnabled_eq_true_iff _).2 ⟨(hAlways a (by omega)).2.ie, hPend a ha⟩
  exact ((hStalls c (by omega)).pending (hPend c hc)).2 hTick

/-- So a motion whose way meets the target arrives: it has `hit - k` steps to go. -/
theorem exists_arrived (hQuiet : QuietFrom n st turn) (hFair : WeaklyFair st turn) {hit : Nat}
    (hHit : pathPosition m hit = m.tgt) {j k : Nat} (hj : n ≤ j) (hPort : (st j).commands = [])
    (hMoving : Moving m k (st j)) : ∃ j' k', n ≤ j' ∧ Arrived m k' (st j') := by
  induction hLeft : hit - k generalizing j k with
  | zero =>
    obtain ⟨j', hj', -, hNext | hArrived⟩ := exists_next_tick hQuiet hFair hj hPort hMoving
    · exact absurd hHit (hNext.notYet hit (by omega))
    · exact ⟨j', k + 1, hj.trans hj', hArrived⟩
  | succ left ih =>
    obtain ⟨j', hj', hPort', hNext | hArrived⟩ := exists_next_tick hQuiet hFair hj hPort hMoving
    · exact ih (hj.trans hj') hPort' hNext (by omega)
    · exact ⟨j', k + 1, hj.trans hj', hArrived⟩

end

/-- The way of a motion that steps by one meets every position, the wrap included. -/
theorem exists_pathPosition_eq_tgt {m : State} (hDir : m.dir.toInt = 1 ∨ m.dir.toInt = -1) :
    ∃ hit, pathPosition m hit = m.tgt := by
  have hTgtLow := BitVec.le_toInt m.tgt
  have hTgtHigh := BitVec.toInt_lt (x := m.tgt)
  refine ⟨(((m.tgt.toInt - m.pos.toInt) * m.dir.toInt) % 65536).toNat, BitVec.eq_of_toInt_eq ?_⟩
  rw [pathPosition, BitVec.toInt_ofInt, Int.toNat_of_nonneg (by omega), Int.bmod_def]
  rcases hDir with h | h <;> rw [h] <;> split <;> omega

/-- Settles O48: the run is quiet from the given point on, so the motion that stands there arrives. -/
theorem halfMotionEndsUnderFairness : Obligations.HalfMotionEndsUnderFairness := by
  intro st turn words n hRun hFair hPower hWords hPort hPhase hIe hBusy hDir
  have hQuiet : QuietFrom n st turn :=
    { step := fun j hj hEmpty => by
        have hStep := hRun j
        rw [hWords j hj, List.append_nil] at hStep
        exact hStep
      powered := hPower }
  have hMoving : Moving (st n) 0 (st n) :=
    { phase := hPhase, busy := hBusy, ie := hIe, tgt := rfl, dir := rfl, pos := (pathPosition_zero _).symm,
      tc := by simp, stepSpeed := rfl, notYet := by simp }
  obtain ⟨hit, hHit⟩ := exists_pathPosition_eq_tgt hDir
  obtain ⟨j, k, hj, hArrived⟩ := exists_arrived hQuiet hFair hHit le_rfl hPort hMoving
  exact ⟨j, hj, hArrived.busy, hArrived.phase, hArrived.pos⟩

end Sys2Proof.Machine
end

section
/-!
SUPPORT. Homing in full (R102, R175): up to PEND and the draws, which nothing in homing reads but SCAN the levels of its
own step, homing is STEPs to the right switch, the turn, STEPs to the left switch and the end.
-/

namespace Sys2Proof.Machine

theorem leadsAll_append {l₁ l₂ : List Drawn} {s : State} {P : State → Prop}
    (h : LeadsAll l₁ s fun t => LeadsAll l₂ t P) : LeadsAll (l₁ ++ l₂) s P := by
  induction l₁ generalizing s with
  | nil => exact leadsAll_nil_iff.1 h
  | cons x later ih =>
    obtain ⟨t, ht⟩ := exec_total x.1 { s with draws := x.2 }
    rw [leadsAll_cons_iff ht] at h
    rw [List.cons_append, leadsAll_cons_iff ht]
    exact ih h

/-- `v` with another PEND and other draws. -/
def State.stirred (pend : Bool) (draws : Draws) (v : State) : State := { v with pend := pend, draws := draws }

/-- `u` is `v` but for PEND and the draws. -/
def SameHoming (v u : State) : Prop := ∃ pend draws, u = v.stirred pend draws

theorem SameHoming.withDraws {v u : State} (h : SameHoming v u) (d : Draws) : SameHoming v { u with draws := d } := by
  obtain ⟨pend, draws, rfl⟩ := h
  exact ⟨pend, d, rfl⟩

/-- In homing, with the channel interrupt off, all but SCAN and SETTLE_DONE set PEND or change nothing. -/
theorem exec_keeps_sameHoming {i : Instr} {v u t : State} (hPhase : v.phase = .homeR ∨ v.phase = .homeL)
    (hIe : v.ie = false) (hi : ¬ isHomingEvent (i, u.draws) = true) (hu : SameHoming v u) (h : exec i u = .next t) :
    SameHoming v t := by
  obtain ⟨pend, draws, rfl⟩ := hu
  by_cases hMatch : i = .compareMatch
  · subst hMatch
    exact ⟨true, draws, (Host.Outcome.next.inj h).symm⟩
  · have hHeld : enabled i (v.stirred pend draws) = false := by
      cases i with
      | compareMatch => exact absurd rfl hMatch
      | tick => exact (tickEnabled_eq_false_iff _).2 (.inl hIe)
      | scan => exact absurd rfl hi
      | settleDone => exact absurd rfl hi
      | _ => exact host_not_enabled_of_homing rfl hPhase
    exact ⟨pend, draws, (Host.Outcome.next.inj ((exec_of_not_enabled hHeld).symm.trans h)).symm⟩

theorem leadsAll_sameHoming {v u : State} {l : List Drawn} (hPhase : v.phase = .homeR ∨ v.phase = .homeL)
    (hIe : v.ie = false) (hl : ∀ x ∈ l, ¬ isHomingEvent x = true) (hu : SameHoming v u) :
    LeadsAll l u (SameHoming v) :=
  leadsAll_of_kept (Q := fun x => ¬ isHomingEvent x = true) (fun _ d h => h.withDraws d)
    (fun _ _ _ hi hu h => exec_keeps_sameHoming hPhase hIe hi hu h) hl hu

/-- A run up to its next homing event, and that event: what comes before changes PEND and the draws only. -/
theorem leadsAll_cons_homingEvent {v u : State} {l₁ l₂ : List Drawn} {x : Drawn} {P : State → Prop}
    (hPhase : v.phase = .homeR ∨ v.phase = .homeL) (hIe : v.ie = false) (hl : ∀ y ∈ l₁, ¬ isHomingEvent y = true)
    (hu : SameHoming v u)
    (hx : ∀ pend, ∃ t, Effect (v.stirred pend x.2) x.1 t ∧ LeadsAll l₂ t P) :
    LeadsAll (l₁ ++ x :: l₂) u P := by
  refine leadsAll_append ((leadsAll_sameHoming hPhase hIe hl hu).imp ?_)
  rintro w ⟨pend, draws, rfl⟩
  obtain ⟨t, ht, hRest⟩ := hx pend
  exact (leadsAll_cons_iff ht.exec_eq).2 hRest

/-- A homing phase in which no settle delay runs, so that SCAN is enabled. -/
structure Scanning (v : State) : Prop where
  homing : v.phase = .homeR ∨ v.phase = .homeL
  ie : v.ie = false
  settle : v.settle = false

theorem Scanning.stepCoil {v : State} (h : Scanning v) : Scanning (stepCoil v) := ⟨h.homing, h.ie, h.settle⟩

theorem Scanning.iterate_stepCoil {v : State} (h : Scanning v) (k : Nat) : Scanning (Machine.stepCoil^[k] v) := by
  rw [iterate_stepCoil_eq]
  exact ⟨h.homing, h.ie, h.settle⟩

/-- Homing passes with the switch not pressed are STEPs (R93, R97), whatever comes between. -/
theorem leadsAll_homingPasses {passes : List (Draws × Draws)} {l : List Drawn} {v u : State} (hv : Scanning v)
    (hOpen : ∀ x ∈ passes, State.phaseSwitch { v with draws := x.1 } = 1)
    (hl : l.filter isHomingEvent = homingPasses passes) (hu : SameHoming v u) :
    LeadsAll l u (SameHoming (stepCoil^[passes.length] v)) := by
  induction passes generalizing l v u with
  | nil => exact leadsAll_sameHoming hv.homing hv.ie (List.filter_eq_nil_iff.1 hl) hu
  | cons pass rest ih =>
    obtain ⟨hFirst, hRest⟩ := List.forall_mem_cons.1 hOpen
    obtain ⟨l₁, l₂, rfl, hl₁, -, hl₂⟩ := List.filter_eq_cons_iff.1 hl
    obtain ⟨l₃, l₄, rfl, hl₃, -, hl₄⟩ := List.filter_eq_cons_iff.1 hl₂
    refine leadsAll_cons_homingEvent hv.homing hv.ie hl₁ hu fun pend => ?_
    refine ⟨_, Effect.homes (s := v.stirred pend pass.1) hv.settle hv.homing hFirst, ?_⟩
    refine leadsAll_cons_homingEvent (v := homingStep v) hv.homing hv.ie hl₃ ⟨pend, pass.1, rfl⟩ fun pend' => ?_
    refine ⟨_, Effect.settles rfl, ih hv.stepCoil hRest hl₄ ⟨pend', pass.2, ?_⟩⟩
    simp only [State.stirred, homingStep, stepCoil_eq, hv.settle]

/-- The state homing ends in, PEND and the draws aside: INIT, `a` STEPs, the turn at the right switch, `b` STEPs, the
end at the left. -/
def homed (s : State) (a b : Nat) : State := reachLeft (stepCoil^[b] (reachRight (stepCoil^[a] (startHoming s))))

/-- Homing with `a` passes to the right switch and `b` to the left ends in `homed`, whatever comes between. -/
theorem leadsAll_homed {s : State} {l : List Drawn} {rights lefts : List (Draws × Draws)} {dr dl : Draws}
    (hIe : s.ie = false) (hRights : ∀ x ∈ rights, x.1.limRn = 1) (hRight : dr.limRn = 0)
    (hLefts : ∀ x ∈ lefts, x.1.limLn = 1) (hLeft : dl.limLn = 0)
    (hl : l.filter isHomingEvent = homingPasses rights ++ (.scan, dr) :: homingPasses lefts) :
    LeadsAll (l ++ [(.scan, dl)]) (startHoming s) (SameHoming (homed s rights.length lefts.length)) := by
  obtain ⟨l₁, l', rfl, hl₁, hl'⟩ := List.filter_eq_append_iff.1 hl
  obtain ⟨l₂, l₃, rfl, hl₂, -, hl₃⟩ := List.filter_eq_cons_iff.1 hl'
  have hStart : Scanning (startHoming s) := ⟨.inl rfl, hIe, rfl⟩
  have hAtRight := hStart.iterate_stepCoil rights.length
  have hRightPhase : (stepCoil^[rights.length] (startHoming s)).phase = .homeR := by
    rw [iterate_stepCoil_eq]
    rfl
  have hTurned : Scanning (reachRight (stepCoil^[rights.length] (startHoming s))) :=
    ⟨.inr rfl, hAtRight.ie, hAtRight.settle⟩
  have hAtLeft := hTurned.iterate_stepCoil lefts.length
  have hLeftPhase :
      (stepCoil^[lefts.length] (reachRight (stepCoil^[rights.length] (startHoming s)))).phase = .homeL := by
    rw [iterate_stepCoil_eq]
    rfl
  rw [List.append_assoc, List.append_assoc, List.cons_append]
  refine leadsAll_append ((leadsAll_homingPasses hStart hRights hl₁ ⟨s.pend, s.draws, rfl⟩).imp fun u hu => ?_)
  refine leadsAll_cons_homingEvent hAtRight.homing hAtRight.ie hl₂ hu fun pend => ?_
  refine ⟨_, Effect.reachesRight (s := State.stirred pend dr _) hAtRight.settle hRightPhase hRight, ?_⟩
  refine leadsAll_append ((leadsAll_homingPasses hTurned hLefts hl₃ ⟨pend, dr, rfl⟩).imp fun w hw => ?_)
  refine leadsAll_cons_homingEvent (l₁ := []) hAtLeft.homing hAtLeft.ie (by simp) hw fun pend' => ?_
  exact ⟨_, Effect.reachesLeft (s := State.stirred pend' dl _) hAtLeft.settle hLeftPhase hLeft,
    leadsAll_nil_iff.2 ⟨pend', dl, rfl⟩⟩

/-- The index moves back `a` and forth `b` (R102). -/
theorem index_back_and_forth (idx : StepIndex) (a b : Nat) :
    BitVec.ofInt 3 ((BitVec.ofInt 3 (idx.toNat + a * (-1 : Int))).toNat + b * (1 : Int)) =
      BitVec.ofInt 3 ((idx.toNat : Int) - a + b) := by
  rw [BitVec.ofInt_add, BitVec.ofInt_natCast, BitVec.ofNat_toNat, BitVec.setWidth_eq, ← BitVec.ofInt_add]
  congr 1
  omega

/-- At the right switch after `a` STEPs (R95). -/
theorem reachRight_iterate_stepCoil_eq (s : State) (a : Nat) :
    reachRight (stepCoil^[a] (startHoming s)) =
      { s with
        phase := .homeL
        settle := false
        idx := BitVec.ofInt 3 (s.idx.toNat + a * (-1 : Int))
        pos := 0
        mode := 1
        dir := 1
        portHi := if a = 0 then s.portHi else s.patternAt (BitVec.ofInt 3 (s.idx.toNat + a * (-1 : Int)))
        portHiHasValue := s.portHiHasValue || decide (0 < a)
        ioCfg := true } := by
  rw [iterate_stepCoil_eq, reachRight_eq]
  rfl

/-- The state homing ends in, field by field (R102, R175). -/
theorem homed_eq (s : State) (a b : Nat) :
    homed s a b =
      { s with
        phase := .idle
        settle := false
        idx := BitVec.ofInt 3 ((s.idx.toNat : Int) - a + b)
        pos := BitVec.ofNat 16 b
        mode := 1
        dir := 1
        maxs := BitVec.ofNat 16 b
        portHi := if a + b = 0 then s.portHi else s.patternAt (BitVec.ofInt 3 ((s.idx.toNat : Int) - a + b))
        portHiHasValue := s.portHiHasValue || decide (0 < a + b)
        ioCfg := true } := by
  have hPos : BitVec.ofInt 16 ((0 : Position).toInt + b * (1 : Int)) = BitVec.ofNat 16 b := by simp
  have hPort : (if b = 0 then
      if a = 0 then s.portHi else s.patternAt (BitVec.ofInt 3 (s.idx.toNat + a * (-1 : Int)))
        else s.patternAt (BitVec.ofInt 3 ((s.idx.toNat : Int) - a + b))) =
      if a + b = 0 then s.portHi else s.patternAt (BitVec.ofInt 3 ((s.idx.toNat : Int) - a + b)) := by
    by_cases hb : b = 0
    · by_cases ha : a = 0 <;> simp [ha, hb, Int.sub_eq_add_neg]
    · simp [hb]
  have hMark : (s.portHiHasValue || decide (0 < a) || decide (0 < b)) = (s.portHiHasValue || decide (0 < a + b)) := by
    rw [Bool.or_assoc, ← Bool.decide_or]
    congr 2
    exact propext (by omega)
  rw [homed, reachRight_iterate_stepCoil_eq, iterate_stepCoil_eq, ← hPos, ← hMark, ← hPort, ← index_back_and_forth]
  rfl

/-- Settles O23: INIT starts homing, and the run ends in `homed`, which has these fields, but for PEND and the draws. -/
theorem homingOutcome : Obligations.HomingOutcome := by
  intro s l rights lefts dr dl hInv hPhase hRights hRight hLefts hLeft hl
  have hStill : s.phase ≠ .stepping := by rcases hPhase with h | h <;> simp [h]
  have hIe := hInv.ie_eq_false hStill
  refine (Effect.starts hPhase).leads ((leadsAll_homed hIe hRights hRight hLefts hLeft hl).imp ?_)
  rintro u ⟨pend, draws, rfl⟩
  rw [homed_eq]
  refine ⟨rfl, rfl, rfl, rfl, rfl, rfl, rfl, rfl, ?_, hInv.busy_eq_false hStill, hIe, rfl, rfl, rfl, rfl, rfl⟩
  simp [State.stirred]

end Sys2Proof.Machine
end
